-- ==== Sys2Proof/Word.lean ====
section
/-! DEFINITION. The value types of the spec (00_scope section 5): `u32` and `u8`, and the 9-bit BUS descriptor of
30_encoding R86. All arithmetic on them is unsigned and all right shifts are logical (R4). -/
namespace Sys2Proof

abbrev Word := BitVec 32
abbrev Byte := BitVec 8
abbrev Descriptor := BitVec 9

end Sys2Proof
end

