-- ==== Sys2Proof/Config.lean ====
section
/-! DEFINITION. What is fixed for one machine: the parameters (00_scope R2), the constants (R3), and the free values,
which have no body: nothing can be proved of them but what holds of every value. -/
namespace Sys2Proof

/-- The parameters of R2. BUF_CAP and RES_DEPTH are 32-bit, which is their upper bound 2^32 - 1. -/
structure Params where
  /-- BUF_CAP: bytes of the capture buffer. -/
  bufCap : Word
  /-- RES_DEPTH: entries of the result memory. -/
  resDepth : Word
  /-- REG_BASE: the bus address of register offset 0x00. -/
  regBase : Nat
  deriving DecidableEq, Repr

/-- The legal values of R2. -/
abbrev Params.Legal (p : Params) : Prop :=
  68 ≤ p.bufCap.toNat ∧ 1 ≤ p.resDepth.toNat ∧ p.regBase % 256 = 0

namespace Config

/-- The values R2 gives for the spec's examples. -/
def exampleParams : Params := { bufCap := 4096, resDepth := 64, regBase := 0 }

/-- POLY (R3). -/
def poly : Word := 0xEDB88320
/-- DEFAULT_SEED (R3). -/
def defaultSeed : Word := 0x00000001
/-- SCAN_SEED (R3). -/
def scanSeed : Word := 0x00000001
/-- The bytes of HDR, in address order (R3). -/
def hdr0 : Byte := 0xA5
def hdr1 : Byte := 0x5A
def hdr2 : Byte := 0x01
def hdr3 : Byte := 0x3C
/-- CRC_LEN (R3). -/
def crcLen : Nat := 4
/-- CNT_OFF (R3), from the start of the frame (90_conflicts C1). -/
def cntOff : Nat := 56
/-- DEFAULT_FS (R3). -/
def defaultFrameSize : Word := 68
/-- FS_MIN (R3). -/
def fsMin : Nat := 60

/-- FREE VALUE (R252, log entry 5): the byte of `buf` at an address after the reset numbered by the first argument. -/
opaque bufAtReset : Nat → Nat → Byte
/-- FREE VALUE (R253, log entry 6): the offset held by an entry of `res` after a reset. -/
opaque resOffsetAtReset : Nat → Nat → Word
/-- FREE VALUE (R253, log entry 6): the counter held by an entry of `res` after a reset. -/
opaque resCounterAtReset : Nat → Nat → Word

end Config
end Sys2Proof
end

