-- ==== Sys2Proof/Syntax.lean ====
section
/-! DEFINITION. The instructions: one constructor per row of spec/opcode_table.json, in the table's order.
The six rows of format CMDW are command words, the data of a WR CMD access (30_encoding R81, R82, R88).
The rows of format BUS are host register accesses (R86). A write carries its 32-bit data value. -/
namespace Sys2Proof

inductive Instr where
  /-- NOP, word 0x00000000 (R193). -/
  | nop
  /-- CRC_INIT, word 0x01000000 (R107). -/
  | crcInit
  /-- CRC_BYTE, words 0x02000000 to 0x020000FF (R108). -/
  | crcByte (b : Byte)
  /-- CRC_RANGE, word 0x03000000 (R109). -/
  | crcRange
  /-- FRAME_CHECK, word 0x04000000 (R135). -/
  | frameCheck
  /-- SCAN_START, word 0x05000000 (R160). -/
  | scanStart
  /-- RD CMD (R200). -/
  | rdCmd
  /-- WR CMD (R201). -/
  | wrCmd (v : Word)
  /-- RD STATUS (R198). -/
  | rdStatus
  /-- WR STATUS (R199). -/
  | wrStatus (v : Word)
  /-- RD CRC (R105). -/
  | rdCrc
  /-- WR CRC (R106). -/
  | wrCrc (v : Word)
  /-- RD BUF_LEN (R197). -/
  | rdBufLen
  /-- WR BUF_LEN (R197). -/
  | wrBufLen (v : Word)
  /-- RD FRAME_SIZE (R197). -/
  | rdFrameSize
  /-- WR FRAME_SIZE (R197). -/
  | wrFrameSize (v : Word)
  /-- RD START (R197). -/
  | rdStart
  /-- WR START (R197). -/
  | wrStart (v : Word)
  /-- RD COUNT (R197). -/
  | rdCount
  /-- WR COUNT (R197). -/
  | wrCount (v : Word)
  /-- RD BUF_ADDR (R194). -/
  | rdBufAddr
  /-- WR BUF_ADDR (R194). -/
  | wrBufAddr (v : Word)
  /-- RD BUF_DATA (R196). -/
  | rdBufData
  /-- WR BUF_DATA (R195). -/
  | wrBufData (v : Word)
  /-- RD TBL_IDX (R111). -/
  | rdTblIdx
  /-- WR TBL_IDX (R111). -/
  | wrTblIdx (v : Word)
  /-- RD TBL_DATA (R101). -/
  | rdTblData
  /-- WR TBL_DATA (ignored: a read-only register) (R66). -/
  | wrTblDataIgnored (v : Word)
  /-- RD CURSOR (R172). -/
  | rdCursor
  /-- WR CURSOR (ignored: a read-only register) (R66). -/
  | wrCursorIgnored (v : Word)
  /-- RD VALID_COUNT (R172). -/
  | rdValidCount
  /-- WR VALID_COUNT (ignored: a read-only register) (R66). -/
  | wrValidCountIgnored (v : Word)
  /-- RD BAD_COUNT (R172). -/
  | rdBadCount
  /-- WR BAD_COUNT (ignored: a read-only register) (R66). -/
  | wrBadCountIgnored (v : Word)
  /-- RD RES_IDX (R170). -/
  | rdResIdx
  /-- WR RES_IDX (R170). -/
  | wrResIdx (v : Word)
  /-- RD RES_OFFSET (R171). -/
  | rdResOffset
  /-- WR RES_OFFSET (ignored: a read-only register) (R66). -/
  | wrResOffsetIgnored (v : Word)
  /-- RD RES_COUNTER (R171). -/
  | rdResCounter
  /-- WR RES_COUNTER (ignored: a read-only register) (R66). -/
  | wrResCounterIgnored (v : Word)
  /-- RD CHK_RESULT (R136). -/
  | rdChkResult
  /-- WR CHK_RESULT (ignored: a read-only register) (R66). -/
  | wrChkResultIgnored (v : Word)
  /-- RD CHK_COMPUTED (R136). -/
  | rdChkComputed
  /-- WR CHK_COMPUTED (ignored: a read-only register) (R66). -/
  | wrChkComputedIgnored (v : Word)
  /-- RD CHK_STORED (R136). -/
  | rdChkStored
  /-- WR CHK_STORED (ignored: a read-only register) (R66). -/
  | wrChkStoredIgnored (v : Word)
  /-- RD CHK_COUNTER (R136). -/
  | rdChkCounter
  /-- WR CHK_COUNTER (ignored: a read-only register) (R66). -/
  | wrChkCounterIgnored (v : Word)
  /-- RD BUF_CAP_REG (R202). -/
  | rdBufCapReg
  /-- WR BUF_CAP_REG (ignored: a read-only register) (R66). -/
  | wrBufCapRegIgnored (v : Word)
  /-- RD RES_DEPTH_REG (R202). -/
  | rdResDepthReg
  /-- WR RES_DEPTH_REG (ignored: a read-only register) (R66). -/
  | wrResDepthRegIgnored (v : Word)
  /-- RD of the reserved offset 0x5C (R66). -/
  | rdReserved5C
  /-- RD of a reserved offset 0x60 to 0x7C; `word` is the offset divided by 4 (R66). -/
  | rdReserved60to7C (word : BitVec 6)
  /-- RD of a reserved offset 0x80 to 0xFC; `word` is the offset divided by 4 (R66). -/
  | rdReserved80toFC (word : BitVec 6)
  /-- WR of the reserved offset 0x5C (R66). -/
  | wrReserved5C (v : Word)
  /-- WR of a reserved offset 0x60 to 0x7C (R66). -/
  | wrReserved60to7C (word : BitVec 6) (v : Word)
  /-- WR of a reserved offset 0x80 to 0xFC (R66). -/
  | wrReserved80toFC (word : BitVec 6) (v : Word)
  /-- An access with al = 01 (R64); `v` is the data of a write, 0 for a read. -/
  | misaligned01 (write : Bool) (word : BitVec 6) (v : Word)
  /-- An access with al = 10 (R64). -/
  | misaligned10 (write : Bool) (word : BitVec 6) (v : Word)
  /-- An access with al = 11 (R64). -/
  | misaligned11 (write : Bool) (word : BitVec 6) (v : Word)
  deriving DecidableEq, Repr

end Sys2Proof
end

