-- ==== Sys2Proof/WellFormed.lean ====
section
/-! DEFINITION. Which terms of Instr some encoding stands for: the `word` of a reserved access lies in its row's
range (the mask and match of opcode_table.json), and a misaligned read carries no data (log entry 10). -/
namespace Sys2Proof

/-- `word` values 0x18 to 0x1F, offsets 0x60 to 0x7C. -/
def wordIn60to7C (word : BitVec 6) : Bool := 0x18 ≤ word.toNat && word.toNat ≤ 0x1F

/-- `word` values 0x20 to 0x3F, offsets 0x80 to 0xFC. -/
def wordIn80toFC (word : BitVec 6) : Bool := 0x20 ≤ word.toNat

/-- DESIGN CHOICE (log entries 10 and 15): a read brings no data to the register port, so its data value is 0. -/
def dataFits (write : Bool) (v : Word) : Bool := write || v == 0

def Instr.wellFormed : Instr → Bool
  | .nop | .crcInit | .crcByte _ | .crcRange | .frameCheck
  | .scanStart | .rdCmd | .wrCmd _ | .rdStatus | .wrStatus _
  | .rdCrc | .wrCrc _ | .rdBufLen | .wrBufLen _ | .rdFrameSize
  | .wrFrameSize _ | .rdStart | .wrStart _ | .rdCount | .wrCount _
  | .rdBufAddr | .wrBufAddr _ | .rdBufData | .wrBufData _ | .rdTblIdx
  | .wrTblIdx _ | .rdTblData | .wrTblDataIgnored _ | .rdCursor | .wrCursorIgnored _
  | .rdValidCount | .wrValidCountIgnored _ | .rdBadCount | .wrBadCountIgnored _ | .rdResIdx
  | .wrResIdx _ | .rdResOffset | .wrResOffsetIgnored _ | .rdResCounter | .wrResCounterIgnored _
  | .rdChkResult | .wrChkResultIgnored _ | .rdChkComputed | .wrChkComputedIgnored _ | .rdChkStored
  | .wrChkStoredIgnored _ | .rdChkCounter | .wrChkCounterIgnored _ | .rdBufCapReg | .wrBufCapRegIgnored _
  | .rdResDepthReg | .wrResDepthRegIgnored _ | .rdReserved5C | .wrReserved5C _ => true
  | .rdReserved60to7C word | .wrReserved60to7C word _ => wordIn60to7C word
  | .rdReserved80toFC word | .wrReserved80toFC word _ => wordIn80toFC word
  | .misaligned01 write _ v | .misaligned10 write _ v | .misaligned11 write _ v => dataFits write v

end Sys2Proof
end

