-- ==== Sys2Proof/Decode.lean ====
section
/-! DEFINITION. Decoding of command words (format CMDW, 30_encoding R81 to R84) and of host register accesses
(format BUS, R86), the encoder, and the numbering of spec/opcode_table.json. -/
namespace Sys2Proof

/-- A legal command word, decoded (R82). -/
inductive Command where
  | nop
  | crcInit
  | crcByte (b : Byte)
  | crcRange
  | frameCheck
  | scanStart
  deriving DecidableEq, Repr

/-- Why a word is no instruction. The first three make a command word illegal (R84, R224). -/
inductive DecodeRefusal where
  | unassignedOpcode
  | reservedBitsSet
  | operandNotAllowed
  /-- A word of a length that is neither a command word nor a register access (R80). -/
  | noSuchFormat
  deriving DecidableEq, Repr

/-- An instruction's words: a command word, or a descriptor with its data value (R80). -/
inductive Encoded where
  | cmdw (w : Word)
  | bus (d : Descriptor) (v : Word)
  deriving DecidableEq, Repr

/-- Bits 31:24 of a command word (R81). -/
def cmdOpc (w : Word) : Byte := w.extractLsb' 24 8
/-- Bits 23:8, which must be 0 (R81). -/
def cmdRsv (w : Word) : BitVec 16 := w.extractLsb' 8 16
/-- Bits 7:0, the byte operand of CRC_BYTE (R81, R83). -/
def cmdImm8 (w : Word) : Byte := w.extractLsb' 0 8

/-- A command without an operand: bits 7:0 must be 0 (R82). -/
def decodeNoOperand (w : Word) (c : Command) : Except DecodeRefusal Command :=
  if cmdImm8 w = 0 then .ok c else .error .operandNotAllowed

/-- The opcode map (R82); every other word is illegal (R84). -/
def decodeCommand (w : Word) : Except DecodeRefusal Command :=
  if cmdRsv w ≠ 0 then .error .reservedBitsSet
  else
    match (cmdOpc w).toNat with
    | 0x00 => decodeNoOperand w .nop
    | 0x01 => decodeNoOperand w .crcInit
    | 0x02 => .ok (.crcByte (cmdImm8 w))
    | 0x03 => decodeNoOperand w .crcRange
    | 0x04 => decodeNoOperand w .frameCheck
    | 0x05 => decodeNoOperand w .scanStart
    | _ => .error .unassignedOpcode

/-- The command's row of the opcode table. -/
def commandInstr : Command → Instr
  | .nop => .nop
  | .crcInit => .crcInit
  | .crcByte b => .crcByte b
  | .crcRange => .crcRange
  | .frameCheck => .frameCheck
  | .scanStart => .scanStart

/-- The read at `word` = offset / 4 (the map of 10_state R20; 0x17 to 0x3F are reserved, R66). -/
def decodeRead (word : BitVec 6) : Instr :=
  match word.toNat with
  | 0 => .rdCmd
  | 1 => .rdStatus
  | 2 => .rdCrc
  | 3 => .rdBufLen
  | 4 => .rdFrameSize
  | 5 => .rdStart
  | 6 => .rdCount
  | 7 => .rdBufAddr
  | 8 => .rdBufData
  | 9 => .rdTblIdx
  | 10 => .rdTblData
  | 11 => .rdCursor
  | 12 => .rdValidCount
  | 13 => .rdBadCount
  | 14 => .rdResIdx
  | 15 => .rdResOffset
  | 16 => .rdResCounter
  | 17 => .rdChkResult
  | 18 => .rdChkComputed
  | 19 => .rdChkStored
  | 20 => .rdChkCounter
  | 21 => .rdBufCapReg
  | 22 => .rdResDepthReg
  | 23 => .rdReserved5C
  | n => if n < 0x20 then .rdReserved60to7C word else .rdReserved80toFC word

/-- The write of `v` at `word` = offset / 4 (R20, R66). -/
def decodeWrite (word : BitVec 6) (v : Word) : Instr :=
  match word.toNat with
  | 0 => .wrCmd v
  | 1 => .wrStatus v
  | 2 => .wrCrc v
  | 3 => .wrBufLen v
  | 4 => .wrFrameSize v
  | 5 => .wrStart v
  | 6 => .wrCount v
  | 7 => .wrBufAddr v
  | 8 => .wrBufData v
  | 9 => .wrTblIdx v
  | 10 => .wrTblDataIgnored v
  | 11 => .wrCursorIgnored v
  | 12 => .wrValidCountIgnored v
  | 13 => .wrBadCountIgnored v
  | 14 => .wrResIdx v
  | 15 => .wrResOffsetIgnored v
  | 16 => .wrResCounterIgnored v
  | 17 => .wrChkResultIgnored v
  | 18 => .wrChkComputedIgnored v
  | 19 => .wrChkStoredIgnored v
  | 20 => .wrChkCounterIgnored v
  | 21 => .wrBufCapRegIgnored v
  | 22 => .wrResDepthRegIgnored v
  | 23 => .wrReserved5C v
  | n => if n < 0x20 then .wrReserved60to7C word v else .wrReserved80toFC word v

/-- Bit 8 of the descriptor: 1 = write (R86). -/
def descWrite (d : Descriptor) : Bool := d.getLsbD 8
/-- Bits 7:2: the register offset divided by 4 (R86). -/
def descWord (d : Descriptor) : BitVec 6 := d.extractLsb' 2 6
/-- Bits 1:0: must be 00 (R86). -/
def descAl (d : Descriptor) : BitVec 2 := d.extractLsb' 0 2

/-- The data value a descriptor carries to the register port: that of a write (R86). DESIGN CHOICE (log entries 10 and
15): of a read it is 0; R86's data value of a read is the one returned. -/
def busData (d : Descriptor) (v : Word) : Word := if descWrite d then v else 0

/-- One host register access (R86). Every descriptor is exactly one row of the table. -/
def decodeBus (d : Descriptor) (v : Word) : Instr :=
  match (descAl d).toNat with
  | 0 => if descWrite d then decodeWrite (descWord d) v else decodeRead (descWord d)
  | 1 => .misaligned01 (descWrite d) (descWord d) (busData d v)
  | 2 => .misaligned10 (descWrite d) (descWord d) (busData d v)
  | _ => .misaligned11 (descWrite d) (descWord d) (busData d v)

def decode : Encoded → Except DecodeRefusal Instr
  | .cmdw w => (decodeCommand w).map commandInstr
  | .bus d v => .ok (decodeBus d v)

/-- The command words of R82. -/
def encodeCommand : Command → Word
  | .nop => 0x00000000
  | .crcInit => 0x01000000
  | .crcByte b => 0x02000000 ||| b.setWidth 32
  | .crcRange => 0x03000000
  | .frameCheck => 0x04000000
  | .scanStart => 0x05000000

/-- A descriptor from its fields (R86). -/
def descriptor (write : Bool) (word : BitVec 6) (al : BitVec 2) : Descriptor :=
  BitVec.ofBool write ++ word ++ al

def encodeRd (word : BitVec 6) : Encoded := .bus (descriptor false word 0) 0
def encodeWr (word : BitVec 6) (v : Word) : Encoded := .bus (descriptor true word 0) v

/-- The words of an instruction, from R82 and the register map of R20. -/
def encode : Instr → Encoded
  | .nop => .cmdw (encodeCommand .nop)
  | .crcInit => .cmdw (encodeCommand .crcInit)
  | .crcByte b => .cmdw (encodeCommand (.crcByte b))
  | .crcRange => .cmdw (encodeCommand .crcRange)
  | .frameCheck => .cmdw (encodeCommand .frameCheck)
  | .scanStart => .cmdw (encodeCommand .scanStart)
  | .rdCmd => encodeRd 0x00
  | .wrCmd v => encodeWr 0x00 v
  | .rdStatus => encodeRd 0x01
  | .wrStatus v => encodeWr 0x01 v
  | .rdCrc => encodeRd 0x02
  | .wrCrc v => encodeWr 0x02 v
  | .rdBufLen => encodeRd 0x03
  | .wrBufLen v => encodeWr 0x03 v
  | .rdFrameSize => encodeRd 0x04
  | .wrFrameSize v => encodeWr 0x04 v
  | .rdStart => encodeRd 0x05
  | .wrStart v => encodeWr 0x05 v
  | .rdCount => encodeRd 0x06
  | .wrCount v => encodeWr 0x06 v
  | .rdBufAddr => encodeRd 0x07
  | .wrBufAddr v => encodeWr 0x07 v
  | .rdBufData => encodeRd 0x08
  | .wrBufData v => encodeWr 0x08 v
  | .rdTblIdx => encodeRd 0x09
  | .wrTblIdx v => encodeWr 0x09 v
  | .rdTblData => encodeRd 0x0A
  | .wrTblDataIgnored v => encodeWr 0x0A v
  | .rdCursor => encodeRd 0x0B
  | .wrCursorIgnored v => encodeWr 0x0B v
  | .rdValidCount => encodeRd 0x0C
  | .wrValidCountIgnored v => encodeWr 0x0C v
  | .rdBadCount => encodeRd 0x0D
  | .wrBadCountIgnored v => encodeWr 0x0D v
  | .rdResIdx => encodeRd 0x0E
  | .wrResIdx v => encodeWr 0x0E v
  | .rdResOffset => encodeRd 0x0F
  | .wrResOffsetIgnored v => encodeWr 0x0F v
  | .rdResCounter => encodeRd 0x10
  | .wrResCounterIgnored v => encodeWr 0x10 v
  | .rdChkResult => encodeRd 0x11
  | .wrChkResultIgnored v => encodeWr 0x11 v
  | .rdChkComputed => encodeRd 0x12
  | .wrChkComputedIgnored v => encodeWr 0x12 v
  | .rdChkStored => encodeRd 0x13
  | .wrChkStoredIgnored v => encodeWr 0x13 v
  | .rdChkCounter => encodeRd 0x14
  | .wrChkCounterIgnored v => encodeWr 0x14 v
  | .rdBufCapReg => encodeRd 0x15
  | .wrBufCapRegIgnored v => encodeWr 0x15 v
  | .rdResDepthReg => encodeRd 0x16
  | .wrResDepthRegIgnored v => encodeWr 0x16 v
  | .rdReserved5C => encodeRd 0x17
  | .rdReserved60to7C word => encodeRd word
  | .rdReserved80toFC word => encodeRd word
  | .wrReserved5C v => encodeWr 0x17 v
  | .wrReserved60to7C word v => encodeWr word v
  | .wrReserved80toFC word v => encodeWr word v
  | .misaligned01 write word v => .bus (descriptor write word 1) v
  | .misaligned10 write word v => .bus (descriptor write word 2) v
  | .misaligned11 write word v => .bus (descriptor write word 3) v

/-- The words numbered as spec/opcode_table.json numbers them. DESIGN CHOICE (log entry 15): a number given with 32 bits
is a command word; one given with any length from 0 to 16, or with 48, is a register access: its descriptor in bits 8:0,
bits 15:9 zero, its data value in bits 47:16, read at each of those lengths. No other length is a word's. R80 gives the
formats' lengths (32 bits; 9 and 32 bits) and no such numbering. -/
def tableWords (nbits w : Nat) : Option Encoded :=
  if nbits = 32 then
    if w < 2 ^ 32 then some (.cmdw (BitVec.ofNat 32 w)) else none
  else if nbits ≤ 16 ∨ nbits = 48 then
    if w % 2 ^ 16 < 2 ^ 9 ∧ w < 2 ^ 48 then some (.bus (BitVec.ofNat 9 w) (BitVec.ofNat 32 (w / 2 ^ 16))) else none
  else none

/-- `decode` by name of the reason, for a word of any length. -/
def decodeTable (nbits w : Nat) : Except DecodeRefusal Instr :=
  match tableWords nbits w with
  | some e => decode e
  | none => .error .noSuchFormat

def decodeTableWord (nbits w : Nat) : Option Instr := (decodeTable nbits w).toOption

end Sys2Proof
end

