-- ==== Sys2Proof/Machine/State.lean ====
section
/-! DEFINITION. The state of one TOOLS-CORE (10_state R20 to R47), with the model's own fields for the two agents'
inputs (20_memory R71), the reasons a step can stop, and the state after reset (70_reset_and_hazards R251). -/
namespace Sys2Proof.Machine
open Sys2Proof

/-- Sparse memory: (address, content) pairs. `Memory Byte` is a list of Host.Cell. -/
abbrev Memory (β : Type) := List (Nat × β)

/-- The engine's operation state `op` (R41). -/
inductive EngineOp where
  | idle
  | range
  | scan
  deriving DecidableEq, Repr

/-- The errors of 60_exceptions R220, each the name of its STATUS bit. -/
inductive ErrorCode where
  | cmdErr
  | cfgErr
  | rangeErr
  | busyErr
  | addrErr
  | resOvf
  deriving DecidableEq, Repr

/-- The stored bits of STATUS (R22). BUSY has no storage (R46) and bits 31:8 read 0. -/
structure Status where
  done : Bool
  cmdErr : Bool
  cfgErr : Bool
  rangeErr : Bool
  busyErr : Bool
  addrErr : Bool
  resOvf : Bool
  deriving DecidableEq, Repr

/-- One entry of the result memory (R44). -/
structure ResEntry where
  offset : Word
  counter : Word
  deriving DecidableEq, Repr

/-- The width of a host access (R64). -/
inductive AccessWidth where
  | bits8
  | bits16
  | bits32
  deriving DecidableEq, Repr

/-- One host access on the bus. Of a read, `data` is ignored. -/
structure BusAccess where
  write : Bool
  address : Nat
  width : AccessWidth
  data : Word
  deriving DecidableEq, Repr

/-- What the host can do to the machine: a register access (R71), or a pulse of the reset input (R250). -/
inductive HostEvent where
  | access (a : BusAccess)
  | reset
  deriving DecidableEq, Repr

/-- The two agents (R71). -/
inductive Agent where
  | host
  | engine
  deriving DecidableEq, Repr

structure State where
  /-- The parameters (R2); no step changes them. -/
  params : Params
  /-- The engine's operation state (R41). -/
  op : EngineOp
  /-- STATUS (R22). -/
  status : Status
  /-- CRC (R23). -/
  crc : Word
  /-- BUF_LEN (R24). -/
  bufLen : Word
  /-- FRAME_SIZE (R25). -/
  frameSize : Word
  /-- START (R26). -/
  start : Word
  /-- COUNT (R27). -/
  count : Word
  /-- BUF_ADDR (R28). -/
  bufAddr : Word
  /-- TBL_IDX, the 8 bits it stores (R30). -/
  tblIdx : Byte
  /-- CURSOR (R32). -/
  cursor : Word
  /-- VALID_COUNT (R33). -/
  validCount : Word
  /-- BAD_COUNT (R34). -/
  badCount : Word
  /-- RES_IDX (R35). -/
  resIdx : Word
  /-- CHK_RESULT, bits 2:0 VALID, CRC_MATCH, HDR_MATCH (R37). -/
  chkResult : BitVec 3
  /-- CHK_COMPUTED (R38). -/
  chkComputed : Word
  /-- CHK_STORED (R38). -/
  chkStored : Word
  /-- CHK_COUNTER (R38). -/
  chkCounter : Word
  /-- `buf` (R43): the bytes written since reset. A byte not listed is the free value of R252. -/
  buf : Memory Byte
  /-- `res` (R44): the entries written since reset. An entry not listed is the free value of R253. -/
  res : Memory ResEntry
  /-- The model's own: how many resets there have been, which the free values are drawn with (log entry 5). -/
  epoch : Nat
  /-- The model's own: what the host has yet to do, oldest first (R71, log entry 1). -/
  pending : List HostEvent
  /-- The model's own: who moves, where both agents can; the engine once it has run out (R71, R260, log entry 2). -/
  schedule : List Agent
  /-- The model's own: what the host's last read returned (log entry 3). -/
  hostRead : Option Word
  deriving DecidableEq, Repr

/-- Why the machine stops with a fault. Neither is an error of the spec, which are STATUS bits (R220). -/
inductive Fault where
  /-- An engine step of CRC_RANGE would read `buf` at an address that does not exist (R61). Raised by rangeStep, in
  states no run reaches. Safe (log entry 9). -/
  | readOutsideBuffer (address : Nat)
  /-- A scan step with BUF_LEN > BUF_CAP or FRAME_SIZE < 60, where R130 to R134 give its functions no value. Raised by
  scanStep, in states no run reaches. Safe (log entry 9). -/
  | scanOutsideDomain
  deriving DecidableEq, Repr

/-- Why an instruction or an access has no meaning. -/
inductive Refusal where
  /-- An instruction without a meaning yet. Safe. -/
  | notModelled (mnemonic : String)
  /-- An access at an offset with bits 1:0 not 0: refused by R64. Raised by the misaligned accesses. Safe (entry 10). -/
  | misalignedAccess
  /-- An access of 8 or 16 bits: refused by R64. Raised when the access is fetched. Safe (entry 11). -/
  | accessWidth
  /-- An access outside the 256 bytes at REG_BASE: no register of TOOLS-CORE (R60). Raised when the access is
  fetched. Safe (entry 12). -/
  | outsideRegisterSpace
  deriving DecidableEq, Repr

/-- The outcome of a step or an instruction. -/
abbrev Result := Host.Outcome State Fault Refusal

/-- STATUS after reset: all bits 0 (R251). -/
def Status.reset : Status :=
  { done := false, cmdErr := false, cfgErr := false, rangeErr := false, busyErr := false, addrErr := false, resOvf := false }

/-- The reset state of a machine with the parameters `p`, after the reset numbered `epoch` (R251 to R253). -/
def State.resetWith (p : Params) (epoch : Nat) : State :=
  { params := p
    op := .idle
    status := Status.reset
    crc := Config.defaultSeed
    bufLen := 0
    frameSize := Config.defaultFrameSize
    start := 0
    count := 0
    bufAddr := 0
    tblIdx := 0
    cursor := 0
    validCount := 0
    badCount := 0
    resIdx := 0
    chkResult := 0
    chkComputed := 0
    chkStored := 0
    chkCounter := 0
    buf := []
    res := []
    epoch := epoch
    pending := []
    schedule := []
    hostRead := none }

/-- The machine right after reset, with the spec's example parameters (log entry 4). -/
def State.reset : State := State.resetWith Config.exampleParams 0

end Sys2Proof.Machine
end

