-- ==== Sys2Proof/Machine/Flags.lean ====
section
/-! DEFINITION. The STATUS register: its bits (10_state R22), raising and clearing them (60_exceptions R221, R222;
43_host R199), and the word a read returns (R198). -/
namespace Sys2Proof.Machine
open Sys2Proof

/-- An error's STATUS bit number, which is its code (R220). -/
def ErrorCode.bit : ErrorCode → Nat
  | .cmdErr => 2
  | .cfgErr => 3
  | .rangeErr => 4
  | .busyErr => 5
  | .addrErr => 6
  | .resOvf => 7

/-- The error's bit in STATUS. -/
def Status.error (st : Status) : ErrorCode → Bool
  | .cmdErr => st.cmdErr
  | .cfgErr => st.cfgErr
  | .rangeErr => st.rangeErr
  | .busyErr => st.busyErr
  | .addrErr => st.addrErr
  | .resOvf => st.resOvf

/-- Set the error's bit; a bit that is 1 stays 1 (R221, R222). -/
def Status.raise (st : Status) : ErrorCode → Status
  | .cmdErr => { st with cmdErr := true }
  | .cfgErr => { st with cfgErr := true }
  | .rangeErr => { st with rangeErr := true }
  | .busyErr => { st with busyErr := true }
  | .addrErr => { st with addrErr := true }
  | .resOvf => { st with resOvf := true }

/-- A write of `v` clears each error bit whose bit of `v` is 1; the other bits of `v` are ignored (R199). -/
def Status.clear (st : Status) (v : Word) : Status :=
  { done := st.done
    cmdErr := st.cmdErr && !v.getLsbD 2
    cfgErr := st.cfgErr && !v.getLsbD 3
    rangeErr := st.rangeErr && !v.getLsbD 4
    busyErr := st.busyErr && !v.getLsbD 5
    addrErr := st.addrErr && !v.getLsbD 6
    resOvf := st.resOvf && !v.getLsbD 7 }

/-- One bit, zero-extended to 32 (00_scope section 5). -/
def bitWord (b : Bool) : Word := (BitVec.ofBool b).setWidth 32

/-- The word a STATUS read returns, with BUSY as bit 0 (R198). -/
def Status.word (st : Status) (busy : Bool) : Word :=
  bitWord st.resOvf <<< 7 ||| bitWord st.addrErr <<< 6 ||| bitWord st.busyErr <<< 5 ||| bitWord st.rangeErr <<< 4
    ||| bitWord st.cfgErr <<< 3 ||| bitWord st.cmdErr <<< 2 ||| bitWord st.done <<< 1 ||| bitWord busy

/-- BUSY is 1 exactly when op is not IDLE (R46). -/
def State.busy (s : State) : Bool := s.op != .idle

/-- What a read of STATUS returns (R198). -/
def State.statusWord (s : State) : Word := s.status.word s.busy

end Sys2Proof.Machine
end

