-- ==== Sys2Proof/Machine/Ops.lean ====
section
/-! DEFINITION. The named operations over memory and registers: sparse memory in its canonical form, the bytes of the
capture buffer (20_memory R61, R62), the entries of the result memory, the raising of an error, the write lock
(43_host R192), what a read gives the host, and the reset input.

TAKING AN EXCEPTION: TOOLS-CORE has no trap entry and no return (60_exceptions R231: no state is saved, no mode changes,
no vector is taken). What stands in its place is `State.raise` (R221), the one shared operation of every error. -/
namespace Sys2Proof.Machine
open Sys2Proof

/-- What is listed at `a`, if anything is. -/
def Memory.read? {β : Type} : Memory β → Nat → Option β
  | [], _ => none
  | (k, v) :: t, a => if a = k then some v else Memory.read? t a

/-- List `v` at `a`, keeping the addresses rising. -/
def Memory.write {β : Type} : Memory β → Nat → β → Memory β
  | [], a, v => [(a, v)]
  | (k, w) :: t, a, v =>
    if a < k then (a, v) :: (k, w) :: t
    else if a = k then (a, v) :: t
    else (k, w) :: Memory.write t a v

/-- The canonical form: addresses strictly rising. An unlisted address reads as "nothing listed" (`read?` gives none),
and no entry is that, so memories that list the same are equal lists. -/
abbrev Memory.wf {β : Type} (m : Memory β) : Prop := (m.map Prod.fst).Pairwise (· < ·)

/-- The byte of `buf` at `a`: the one written there, else the free value of R252. -/
def State.bufByte (s : State) (a : Nat) : Byte := (Memory.read? s.buf a).getD (Config.bufAtReset s.epoch a)

/-- Entry `k` of `res`: the one written there, else the free value of R253. -/
def State.resEntry (s : State) (k : Nat) : ResEntry :=
  (Memory.read? s.res k).getD ⟨Config.resOffsetAtReset s.epoch k, Config.resCounterAtReset s.epoch k⟩

/-- MemWrite(a, 1, v) (00_scope section 5). -/
def State.writeByte (s : State) (a : Nat) (v : Byte) : State := { s with buf := Memory.write s.buf a v }

/-- MemBytes(a, n) (00_scope section 5). -/
def State.memBytes (s : State) (a n : Nat) : List Byte := (List.range n).map fun k => s.bufByte (a + k)

/-- MemRead(a, 4), little-endian (R62). -/
def State.memRead (s : State) (a : Nat) : Word :=
  (s.bufByte a).setWidth 32 ||| (s.bufByte (a + 1)).setWidth 32 <<< 8 ||| (s.bufByte (a + 2)).setWidth 32 <<< 16
    ||| (s.bufByte (a + 3)).setWidth 32 <<< 24

/-- `raise <Error>()`: set the error's STATUS bit and nothing else (R221). -/
def State.raise (s : State) (e : ErrorCode) : State := { s with status := s.status.raise e }

/-- `STATUS.DONE <- 1`. -/
def State.complete (s : State) : State := { s with status := { s.status with done := true } }

/-- `STATUS.DONE <- 0`, as every CMD write that is not dropped does first (R201). -/
def State.beginCommand (s : State) : State := { s with status := { s.status with done := false } }

/-- The last step of a stepped command: `op <- IDLE; STATUS.DONE <- 1` (R110, R165). -/
def State.finish (s : State) : State := { s.complete with op := .idle }

/-- The write lock: while op is not IDLE the write is dropped and BUSY_ERR raised (R192, R223). -/
def State.unlessBusy (s : State) (f : State → State) : State :=
  if s.op = .idle then f s else s.raise .busyErr

/-- A read returns `v` to the host and changes no state element of the machine (R67). -/
def State.answer (s : State) (v : Word) : State := { s with hostRead := some v }

/-- The reset input (R250, R251): every element takes its reset value, whatever it was; what the host has read and has
yet to do is no part of the machine and stays. The free values of R252 and R253 are drawn afresh. -/
def State.applyReset (s : State) : State :=
  { State.resetWith s.params (s.epoch + 1) with
    pending := s.pending, schedule := s.schedule, hostRead := s.hostRead }

/-- The next state of an outcome, if it is one. -/
def nextState? : Result → Option State
  | .next s => some s
  | .fault _ => none
  | .refused _ => none

end Sys2Proof.Machine
end

