-- ==== Sys2Proof/Machine/Operands.lean ====
section
/-! DEFINITION. The operands of commands and reads (30_encoding R83): sums of registers are mathematical and never
wrap (00_scope section 5); the legality checks at issue (60_exceptions R225, R226); the windows onto `buf` and `res`. -/
namespace Sys2Proof.Machine
open Sys2Proof

/-- START + COUNT (R109). -/
def State.rangeEnd (s : State) : Nat := s.start.toNat + s.count.toNat

/-- START + FRAME_SIZE (R135). -/
def State.frameEnd (s : State) : Nat := s.start.toNat + s.frameSize.toNat

/-- BUF_LEN > BUF_CAP (R225). -/
def State.lenTooLong (s : State) : Bool := s.params.bufCap.toNat < s.bufLen.toNat

/-- FRAME_SIZE < 60 (R225). -/
def State.frameTooShort (s : State) : Bool := s.frameSize.toNat < Config.fsMin

/-- n_stored = min(VALID_COUNT, RES_DEPTH) (R47). -/
def State.nStored (s : State) : Nat := min s.validCount.toNat s.params.resDepth.toNat

/-- A BUF_DATA access addresses `buf` only below BUF_CAP (R195, R196). -/
def State.bufAddrOk (s : State) : Bool := s.bufAddr.toNat < s.params.bufCap.toNat

/-- What a BUF_DATA read returns (R196). -/
def State.bufDataWord (s : State) : Word :=
  if s.bufAddrOk then (s.bufByte s.bufAddr.toNat).setWidth 32 else 0

/-- What a RES_OFFSET read returns (R171). -/
def State.resOffsetWord (s : State) : Word :=
  if s.resIdx.toNat < s.nStored then (s.resEntry s.resIdx.toNat).offset else 0

/-- What a RES_COUNTER read returns (R171). -/
def State.resCounterWord (s : State) : Word :=
  if s.resIdx.toNat < s.nStored then (s.resEntry s.resIdx.toNat).counter else 0

end Sys2Proof.Machine
end

