-- ==== Sys2Proof/Machine/Checksum.lean ====
section
/-! DEFINITION. The checksum engine's functions (40_crc R100, R102, R103). -/
namespace Sys2Proof.Machine
open Sys2Proof

/-- One round of the table generator: shift right, and exclusive-or POLY if the bit shifted out was 1 (R100). -/
def crcRound (c : Word) : Word := if c.getLsbD 0 then (c >>> 1) ^^^ Config.poly else c >>> 1

/-- `n` rounds. -/
def crcRounds : Nat → Word → Word
  | 0, c => c
  | n + 1, c => crcRounds n (crcRound c)

/-- TBL(i): eight rounds, from the index as it is (R100, 90_conflicts C6). It stands for the constant array TBL of R42. -/
def tbl (i : Byte) : Word := crcRounds 8 (i.setWidth 32)

/-- CrcStep(c, b) (R102). -/
def crcStep (c : Word) (b : Byte) : Word := tbl ((c ^^^ b.setWidth 32).setWidth 8) ^^^ (c >>> 8)

/-- CrcUpdate(s, seed): the bytes in increasing order, and no final exclusive-or (R103). -/
def crcUpdate (bytes : List Byte) (seed : Word) : Word := bytes.foldl crcStep seed

end Sys2Proof.Machine
end

