-- ==== Sys2Proof/Machine/Frame.lean ====
section
/-! DEFINITION. The frame detector, slicer and field extractor (41_frame R130 to R134). `a` is a buffer offset and
`fs` a frame size with 60 ≤ fs and a + fs ≤ BUF_LEN ≤ BUF_CAP. -/
namespace Sys2Proof.Machine
open Sys2Proof

/-- HdrMatch(a) (R130). -/
def State.hdrMatch (s : State) (a : Nat) : Bool :=
  s.bufByte a == Config.hdr0 && s.bufByte (a + 1) == Config.hdr1 && s.bufByte (a + 2) == Config.hdr2
    && s.bufByte (a + 3) == Config.hdr3

/-- FrameCrc(a, fs): the seed is always 1 (R131). -/
def State.frameCrc (s : State) (a fs : Nat) : Word := crcUpdate (s.memBytes a (fs - Config.crcLen)) Config.scanSeed

/-- StoredCrc(a, fs) (R132). -/
def State.storedCrc (s : State) (a fs : Nat) : Word := s.memRead (a + fs - Config.crcLen)

/-- Counter(a) (R133). -/
def State.counterAt (s : State) (a : Nat) : Word := s.memRead (a + Config.cntOff)

/-- Whether the computed checksum equals the stored one (R134). -/
def State.crcMatch (s : State) (a fs : Nat) : Bool := s.frameCrc a fs == s.storedCrc a fs

/-- CHK_RESULT's three bits: VALID, CRC_MATCH, HDR_MATCH (R37, R134, R135). -/
def State.classBits (s : State) (a fs : Nat) : BitVec 3 :=
  BitVec.ofBool (s.hdrMatch a && s.crcMatch a fs) ++ BitVec.ofBool (s.crcMatch a fs) ++ BitVec.ofBool (s.hdrMatch a)

end Sys2Proof.Machine
end

