-- ==== Sys2Proof/Machine/Commands.lean ====
section
/-! DEFINITION. The effect of each command inside the CMD write that issues it, after the checks of 43_host R201, and
the dispatch of R201 itself. -/
namespace Sys2Proof.Machine
open Sys2Proof

/-- NOP (R193). -/
def State.runNop (s : State) : State := s.complete

/-- CRC_INIT (R107). -/
def State.runCrcInit (s : State) : State := { s.complete with crc := Config.defaultSeed }

/-- CRC_BYTE (R108). -/
def State.runCrcByte (s : State) (b : Byte) : State := { s.complete with crc := crcStep s.crc b }

/-- The issue of CRC_RANGE (R109); its steps are the engine's. -/
def State.runCrcRange (s : State) : State :=
  if s.lenTooLong then s.raise .cfgErr
  else if s.bufLen.toNat < s.rangeEnd then s.raise .rangeErr
  else { s with cursor := s.start, op := .range }

/-- The four CHK registers take the classification of the candidate at START (R134, R135). -/
def State.recordCheck (s : State) : State :=
  { s with
    chkResult := s.classBits s.start.toNat s.frameSize.toNat
    chkComputed := s.frameCrc s.start.toNat s.frameSize.toNat
    chkStored := s.storedCrc s.start.toNat s.frameSize.toNat
    chkCounter := s.counterAt s.start.toNat }

/-- FRAME_CHECK (R135). -/
def State.runFrameCheck (s : State) : State :=
  if s.lenTooLong || s.frameTooShort then s.raise .cfgErr
  else if s.bufLen.toNat < s.frameEnd then s.raise .rangeErr
  else s.recordCheck.complete

/-- The issue of SCAN_START (R160); its steps are the engine's. -/
def State.runScanStart (s : State) : State :=
  if s.lenTooLong || s.frameTooShort then s.raise .cfgErr
  else { s with cursor := 0, validCount := 0, badCount := 0, op := .scan }

/-- The case split of R201. -/
def State.runCommand (s : State) : Command → State
  | .nop => s.runNop
  | .crcInit => s.runCrcInit
  | .crcByte b => s.runCrcByte b
  | .crcRange => s.runCrcRange
  | .frameCheck => s.runFrameCheck
  | .scanStart => s.runScanStart

/-- A CMD write of any value (R201): dropped while busy; else DONE is cleared, and the word is refused if it is not
legal (R224) or run. -/
def State.issueWord (s : State) (v : Word) : State :=
  s.unlessBusy fun s =>
    match decodeCommand v with
    | .ok c => s.beginCommand.runCommand c
    | .error _ => s.beginCommand.raise .cmdErr

/-- A CMD write of a command's own word (30_encoding R88): the checks of R201, then the command's effect. -/
def State.issue (s : State) (run : State → State) : State :=
  s.unlessBusy fun s => run s.beginCommand

end Sys2Proof.Machine
end

