-- ==== Sys2Proof/Machine/CrcFamily.lean ====
section
/-! DEFINITION. The checksum engine's host operations (40_crc section 2). -/
namespace Sys2Proof.Machine
open Sys2Proof

/-- CRC_INIT (R107, R201). -/
def execCrcInit (s : State) : Result := .next (s.issue State.runCrcInit)

/-- CRC_BYTE (R108, R201). -/
def execCrcByte (b : Byte) (s : State) : Result := .next (s.issue fun s => s.runCrcByte b)

/-- CRC_RANGE, its issue (R109, R201). -/
def execCrcRange (s : State) : Result := .next (s.issue State.runCrcRange)

/-- RD CRC (R105). -/
def execRdCrc (s : State) : Result := .next (s.answer s.crc)

/-- WR CRC (R106). -/
def execWrCrc (v : Word) (s : State) : Result := .next (s.unlessBusy fun s => { s with crc := v })

/-- RD TBL_IDX (R111). -/
def execRdTblIdx (s : State) : Result := .next (s.answer (s.tblIdx.setWidth 32))

/-- WR TBL_IDX: bits 7:0 are stored (R111). -/
def execWrTblIdx (v : Word) (s : State) : Result := .next (s.unlessBusy fun s => { s with tblIdx := v.setWidth 8 })

/-- RD TBL_DATA (R101). -/
def execRdTblData (s : State) : Result := .next (s.answer (tbl s.tblIdx))

end Sys2Proof.Machine
end

