-- ==== Sys2Proof/Machine/FrameFamily.lean ====
section
/-! DEFINITION. FRAME_CHECK and the reads of its results (41_frame section 3). -/
namespace Sys2Proof.Machine
open Sys2Proof

/-- FRAME_CHECK (R135, R201). -/
def execFrameCheck (s : State) : Result := .next (s.issue State.runFrameCheck)

/-- RD CHK_RESULT: bits 31:3 read 0 (R37, R136). -/
def execRdChkResult (s : State) : Result := .next (s.answer (s.chkResult.setWidth 32))

/-- RD CHK_COMPUTED (R136). -/
def execRdChkComputed (s : State) : Result := .next (s.answer s.chkComputed)

/-- RD CHK_STORED (R136). -/
def execRdChkStored (s : State) : Result := .next (s.answer s.chkStored)

/-- RD CHK_COUNTER (R136). -/
def execRdChkCounter (s : State) : Result := .next (s.answer s.chkCounter)

end Sys2Proof.Machine
end

