-- ==== Sys2Proof/Machine/HostFamily.lean ====
section
/-! DEFINITION. Command dispatch, STATUS, the capture-buffer port and the configuration registers (43_host). -/
namespace Sys2Proof.Machine
open Sys2Proof

/-- NOP (R193, R201). -/
def execNop (s : State) : Result := .next (s.issue State.runNop)

/-- RD CMD (R200). -/
def execRdCmd (s : State) : Result := .next (s.answer 0)

/-- WR CMD: issue a command (R201). -/
def execWrCmd (v : Word) (s : State) : Result := .next (s.issueWord v)

/-- RD STATUS (R198). -/
def execRdStatus (s : State) : Result := .next (s.answer s.statusWord)

/-- WR STATUS: never locked (R199). -/
def execWrStatus (v : Word) (s : State) : Result := .next { s with status := s.status.clear v }

/-- RD BUF_LEN (R197). -/
def execRdBufLen (s : State) : Result := .next (s.answer s.bufLen)

/-- WR BUF_LEN (R197). -/
def execWrBufLen (v : Word) (s : State) : Result := .next (s.unlessBusy fun s => { s with bufLen := v })

/-- RD FRAME_SIZE (R197). -/
def execRdFrameSize (s : State) : Result := .next (s.answer s.frameSize)

/-- WR FRAME_SIZE (R197). -/
def execWrFrameSize (v : Word) (s : State) : Result := .next (s.unlessBusy fun s => { s with frameSize := v })

/-- RD START (R197). -/
def execRdStart (s : State) : Result := .next (s.answer s.start)

/-- WR START (R197). -/
def execWrStart (v : Word) (s : State) : Result := .next (s.unlessBusy fun s => { s with start := v })

/-- RD COUNT (R197). -/
def execRdCount (s : State) : Result := .next (s.answer s.count)

/-- WR COUNT (R197). -/
def execWrCount (v : Word) (s : State) : Result := .next (s.unlessBusy fun s => { s with count := v })

/-- RD BUF_ADDR (R194). -/
def execRdBufAddr (s : State) : Result := .next (s.answer s.bufAddr)

/-- WR BUF_ADDR (R194). -/
def execWrBufAddr (v : Word) (s : State) : Result := .next (s.unlessBusy fun s => { s with bufAddr := v })

/-- RD BUF_DATA: BUF_ADDR does not advance (R196). -/
def execRdBufData (s : State) : Result := .next (s.answer s.bufDataWord)

/-- The effect of a BUF_DATA write that is not locked (R195). -/
def State.storeBufData (s : State) (v : Word) : State :=
  if s.bufAddrOk then { s.writeByte s.bufAddr.toNat (v.setWidth 8) with bufAddr := s.bufAddr + 1 }
  else s.raise .addrErr

/-- WR BUF_DATA (R195). -/
def execWrBufData (v : Word) (s : State) : Result := .next (s.unlessBusy fun s => s.storeBufData v)

/-- RD BUF_CAP_REG (R202). -/
def execRdBufCapReg (s : State) : Result := .next (s.answer s.params.bufCap)

/-- RD RES_DEPTH_REG (R202). -/
def execRdResDepthReg (s : State) : Result := .next (s.answer s.params.resDepth)

end Sys2Proof.Machine
end

