-- ==== Sys2Proof/Machine/ReservedFamily.lean ====
section
/-! DEFINITION. Writes of read-only registers and accesses of reserved offsets (20_memory R66): ignored, whatever
BUSY is, with no STATUS bit set; and misaligned accesses (R64), which the spec refuses: no step is defined for them. -/
namespace Sys2Proof.Machine
open Sys2Proof

/-- WR TBL_DATA: ignored (R66). -/
def execWrTblDataIgnored (_v : Word) (s : State) : Result := .next s

/-- WR CURSOR: ignored (R66). -/
def execWrCursorIgnored (_v : Word) (s : State) : Result := .next s

/-- WR VALID_COUNT: ignored (R66). -/
def execWrValidCountIgnored (_v : Word) (s : State) : Result := .next s

/-- WR BAD_COUNT: ignored (R66). -/
def execWrBadCountIgnored (_v : Word) (s : State) : Result := .next s

/-- WR RES_OFFSET: ignored (R66). -/
def execWrResOffsetIgnored (_v : Word) (s : State) : Result := .next s

/-- WR RES_COUNTER: ignored (R66). -/
def execWrResCounterIgnored (_v : Word) (s : State) : Result := .next s

/-- WR CHK_RESULT: ignored (R66). -/
def execWrChkResultIgnored (_v : Word) (s : State) : Result := .next s

/-- WR CHK_COMPUTED: ignored (R66). -/
def execWrChkComputedIgnored (_v : Word) (s : State) : Result := .next s

/-- WR CHK_STORED: ignored (R66). -/
def execWrChkStoredIgnored (_v : Word) (s : State) : Result := .next s

/-- WR CHK_COUNTER: ignored (R66). -/
def execWrChkCounterIgnored (_v : Word) (s : State) : Result := .next s

/-- WR BUF_CAP_REG: ignored (R66). -/
def execWrBufCapRegIgnored (_v : Word) (s : State) : Result := .next s

/-- WR RES_DEPTH_REG: ignored (R66). -/
def execWrResDepthRegIgnored (_v : Word) (s : State) : Result := .next s

/-- RD of offset 0x5C: 0 (R66). -/
def execRdReserved5C (s : State) : Result := .next (s.answer 0)

/-- RD of offsets 0x60 to 0x7C: 0 (R66). -/
def execRdReserved60to7C (_word : BitVec 6) (s : State) : Result := .next (s.answer 0)

/-- RD of offsets 0x80 to 0xFC: 0 (R66). -/
def execRdReserved80toFC (_word : BitVec 6) (s : State) : Result := .next (s.answer 0)

/-- WR of offset 0x5C: ignored (R66). -/
def execWrReserved5C (_v : Word) (s : State) : Result := .next s

/-- WR of offsets 0x60 to 0x7C: ignored (R66). -/
def execWrReserved60to7C (_word : BitVec 6) (_v : Word) (s : State) : Result := .next s

/-- WR of offsets 0x80 to 0xFC: ignored (R66). -/
def execWrReserved80toFC (_word : BitVec 6) (_v : Word) (s : State) : Result := .next s

/-- An access with al = 01: refused (R64). -/
def execMisaligned01 (_write : Bool) (_word : BitVec 6) (_v : Word) (_s : State) : Result := .refused .misalignedAccess

/-- An access with al = 10: refused (R64). -/
def execMisaligned10 (_write : Bool) (_word : BitVec 6) (_v : Word) (_s : State) : Result := .refused .misalignedAccess

/-- An access with al = 11: refused (R64). -/
def execMisaligned11 (_write : Bool) (_word : BitVec 6) (_v : Word) (_s : State) : Result := .refused .misalignedAccess

end Sys2Proof.Machine
end

