-- ==== Sys2Proof/Machine/ScanFamily.lean ====
section
/-! DEFINITION. Starting a scan and reading its results (42_scan sections 1 and 4). -/
namespace Sys2Proof.Machine
open Sys2Proof

/-- SCAN_START, its issue (R160, R201). -/
def execScanStart (s : State) : Result := .next (s.issue State.runScanStart)

/-- RD RES_IDX (R170). -/
def execRdResIdx (s : State) : Result := .next (s.answer s.resIdx)

/-- WR RES_IDX (R170). -/
def execWrResIdx (v : Word) (s : State) : Result := .next (s.unlessBusy fun s => { s with resIdx := v })

/-- RD RES_OFFSET (R171). -/
def execRdResOffset (s : State) : Result := .next (s.answer s.resOffsetWord)

/-- RD RES_COUNTER (R171). -/
def execRdResCounter (s : State) : Result := .next (s.answer s.resCounterWord)

/-- RD VALID_COUNT (R172). -/
def execRdValidCount (s : State) : Result := .next (s.answer s.validCount)

/-- RD BAD_COUNT (R172). -/
def execRdBadCount (s : State) : Result := .next (s.answer s.badCount)

/-- RD CURSOR (R172). -/
def execRdCursor (s : State) : Result := .next (s.answer s.cursor)

end Sys2Proof.Machine
end

