-- ==== Sys2Proof/Machine/Dispatch.lean ====
section
/-! DEFINITION. One arm per constructor of Instr, each one call of that instruction's meaning. -/
namespace Sys2Proof.Machine
open Sys2Proof

def exec (i : Instr) (s : State) : Host.Outcome State Fault Refusal :=
  match i with
  | .nop => Sys2Proof.Machine.execNop s
  | .crcInit => Sys2Proof.Machine.execCrcInit s
  | .crcByte b => Sys2Proof.Machine.execCrcByte b s
  | .crcRange => Sys2Proof.Machine.execCrcRange s
  | .frameCheck => Sys2Proof.Machine.execFrameCheck s
  | .scanStart => Sys2Proof.Machine.execScanStart s
  | .rdCmd => Sys2Proof.Machine.execRdCmd s
  | .wrCmd v => Sys2Proof.Machine.execWrCmd v s
  | .rdStatus => Sys2Proof.Machine.execRdStatus s
  | .wrStatus v => Sys2Proof.Machine.execWrStatus v s
  | .rdCrc => Sys2Proof.Machine.execRdCrc s
  | .wrCrc v => Sys2Proof.Machine.execWrCrc v s
  | .rdBufLen => Sys2Proof.Machine.execRdBufLen s
  | .wrBufLen v => Sys2Proof.Machine.execWrBufLen v s
  | .rdFrameSize => Sys2Proof.Machine.execRdFrameSize s
  | .wrFrameSize v => Sys2Proof.Machine.execWrFrameSize v s
  | .rdStart => Sys2Proof.Machine.execRdStart s
  | .wrStart v => Sys2Proof.Machine.execWrStart v s
  | .rdCount => Sys2Proof.Machine.execRdCount s
  | .wrCount v => Sys2Proof.Machine.execWrCount v s
  | .rdBufAddr => Sys2Proof.Machine.execRdBufAddr s
  | .wrBufAddr v => Sys2Proof.Machine.execWrBufAddr v s
  | .rdBufData => Sys2Proof.Machine.execRdBufData s
  | .wrBufData v => Sys2Proof.Machine.execWrBufData v s
  | .rdTblIdx => Sys2Proof.Machine.execRdTblIdx s
  | .wrTblIdx v => Sys2Proof.Machine.execWrTblIdx v s
  | .rdTblData => Sys2Proof.Machine.execRdTblData s
  | .wrTblDataIgnored v => Sys2Proof.Machine.execWrTblDataIgnored v s
  | .rdCursor => Sys2Proof.Machine.execRdCursor s
  | .wrCursorIgnored v => Sys2Proof.Machine.execWrCursorIgnored v s
  | .rdValidCount => Sys2Proof.Machine.execRdValidCount s
  | .wrValidCountIgnored v => Sys2Proof.Machine.execWrValidCountIgnored v s
  | .rdBadCount => Sys2Proof.Machine.execRdBadCount s
  | .wrBadCountIgnored v => Sys2Proof.Machine.execWrBadCountIgnored v s
  | .rdResIdx => Sys2Proof.Machine.execRdResIdx s
  | .wrResIdx v => Sys2Proof.Machine.execWrResIdx v s
  | .rdResOffset => Sys2Proof.Machine.execRdResOffset s
  | .wrResOffsetIgnored v => Sys2Proof.Machine.execWrResOffsetIgnored v s
  | .rdResCounter => Sys2Proof.Machine.execRdResCounter s
  | .wrResCounterIgnored v => Sys2Proof.Machine.execWrResCounterIgnored v s
  | .rdChkResult => Sys2Proof.Machine.execRdChkResult s
  | .wrChkResultIgnored v => Sys2Proof.Machine.execWrChkResultIgnored v s
  | .rdChkComputed => Sys2Proof.Machine.execRdChkComputed s
  | .wrChkComputedIgnored v => Sys2Proof.Machine.execWrChkComputedIgnored v s
  | .rdChkStored => Sys2Proof.Machine.execRdChkStored s
  | .wrChkStoredIgnored v => Sys2Proof.Machine.execWrChkStoredIgnored v s
  | .rdChkCounter => Sys2Proof.Machine.execRdChkCounter s
  | .wrChkCounterIgnored v => Sys2Proof.Machine.execWrChkCounterIgnored v s
  | .rdBufCapReg => Sys2Proof.Machine.execRdBufCapReg s
  | .wrBufCapRegIgnored v => Sys2Proof.Machine.execWrBufCapRegIgnored v s
  | .rdResDepthReg => Sys2Proof.Machine.execRdResDepthReg s
  | .wrResDepthRegIgnored v => Sys2Proof.Machine.execWrResDepthRegIgnored v s
  | .rdReserved5C => Sys2Proof.Machine.execRdReserved5C s
  | .rdReserved60to7C word => Sys2Proof.Machine.execRdReserved60to7C word s
  | .rdReserved80toFC word => Sys2Proof.Machine.execRdReserved80toFC word s
  | .wrReserved5C v => Sys2Proof.Machine.execWrReserved5C v s
  | .wrReserved60to7C word v => Sys2Proof.Machine.execWrReserved60to7C word v s
  | .wrReserved80toFC word v => Sys2Proof.Machine.execWrReserved80toFC word v s
  | .misaligned01 write word v => Sys2Proof.Machine.execMisaligned01 write word v s
  | .misaligned10 write word v => Sys2Proof.Machine.execMisaligned10 write word v s
  | .misaligned11 write word v => Sys2Proof.Machine.execMisaligned11 write word v s

end Sys2Proof.Machine
end

