-- ==== Sys2Proof/Machine/Engine.lean ====
section
/-! DEFINITION. The engine's steps: of CRC_RANGE (40_crc R110) and of a scan (42_scan R161 to R166). -/
namespace Sys2Proof.Machine
open Sys2Proof

/-- One engine step while op = RANGE (R110). -/
def rangeStep (s : State) : Result :=
  if s.cursor.toNat = s.rangeEnd then .next s.finish
  else if s.cursor.toNat < s.params.bufCap.toNat then
    .next { s with crc := crcStep s.crc (s.bufByte s.cursor.toNat), cursor := s.cursor + 1 }
  else .fault (.readOutsideBuffer s.cursor.toNat)

/-- Record(i, cnt) (R166): store the entry if there is room, else set RES_OVF (R228); count the frame either way. -/
def State.record (s : State) (i cnt : Word) : State :=
  if s.validCount.toNat < s.params.resDepth.toNat then
    { s with res := Memory.write s.res s.validCount.toNat ⟨i, cnt⟩, validCount := s.validCount + 1 }
  else { s.raise .resOvf with validCount := s.validCount + 1 }

/-- The valid frame at the cursor: record it and jump past it (R163). -/
def State.takeFrame (s : State) : State :=
  { s.record s.cursor (s.counterAt s.cursor.toNat) with cursor := s.cursor + s.frameSize }

/-- No header at the cursor: advance by one byte (R162). -/
def State.skipByte (s : State) : State := { s with cursor := s.cursor + 1 }

/-- A header whose checksum fails: count a bad hit and advance by one byte (R164). -/
def State.countBad (s : State) : State := { s with badCount := s.badCount + 1, cursor := s.cursor + 1 }

/-- The scan's end: CURSOR + FRAME_SIZE > BUF_LEN (R165). -/
def State.scanAtEnd (s : State) : Bool := s.bufLen.toNat < s.cursor.toNat + s.frameSize.toNat

/-- One engine step while op = SCAN (R161). -/
def scanStep (s : State) : Result :=
  if s.scanAtEnd then .next s.finish
  else if s.lenTooLong || s.frameTooShort then .fault .scanOutsideDomain
  else if !s.hdrMatch s.cursor.toNat then .next s.skipByte
  else if s.crcMatch s.cursor.toNat s.frameSize.toNat then .next s.takeFrame
  else .next s.countBad

/-- The engine takes a step only while op is not IDLE (R41). -/
def engineStep (s : State) : Result :=
  match s.op with
  | .idle => .next s
  | .range => rangeStep s
  | .scan => scanStep s

end Sys2Proof.Machine
end

