-- ==== Sys2Proof/Machine/Schedule.lean ====
section
/-! DEFINITION. Who moves next (20_memory R68, R71; 70_reset_and_hazards R260), and how the host's next event is fetched:
a bus access at REG_BASE + offset becomes a BUS descriptor (30_encoding R86). -/
namespace Sys2Proof.Machine
open Sys2Proof

/-- Whose turn it is, with the state the move starts from (its place in the inputs taken). -/
inductive Turn where
  | nobody
  | engine (s : State)
  | host (e : HostEvent) (s : State)
  deriving DecidableEq, Repr

/-- The engine can move while op is not IDLE, the host while it has an event to issue. Where both can, the schedule's
head decides, and the engine moves once the schedule has run out. -/
def State.turn (s : State) : Turn :=
  match s.op, s.pending, s.schedule with
  | .idle, [], _ => .nobody
  | .idle, e :: rest, _ => .host e { s with pending := rest }
  | _, [], _ => .engine s
  | _, e :: rest, .host :: later => .host e { s with pending := rest, schedule := later }
  | _, _ :: _, .engine :: later => .engine { s with schedule := later }
  | _, _ :: _, [] => .engine s

/-- What the host's event asks of the machine. -/
inductive Fetched where
  | reset
  | instr (i : Instr)
  | refused (r : Refusal)
  deriving DecidableEq, Repr

/-- The register space: 256 bytes from REG_BASE (R60). -/
def inRegisterSpace (p : Params) (address : Nat) : Bool := p.regBase ≤ address && address < p.regBase + 256

/-- The descriptor of an access inside the register space: bit 8 the direction, bits 7:0 the offset (R86). -/
def accessDescriptor (p : Params) (a : BusAccess) : Descriptor :=
  BitVec.ofBool a.write ++ BitVec.ofNat 8 (a.address - p.regBase)

/-- Only a 32-bit access in the register space is an access of TOOLS-CORE (R60, R64). -/
def fetchEvent (p : Params) : HostEvent → Fetched
  | .reset => .reset
  | .access a =>
    if a.width ≠ .bits32 then .refused .accessWidth
    else if !inRegisterSpace p a.address then .refused .outsideRegisterSpace
    else .instr (decodeBus (accessDescriptor p a) a.data)

/-- The access a descriptor stands for: REG_BASE + offset (R86). -/
def descriptorAccess (p : Params) (d : Descriptor) (v : Word) : BusAccess :=
  { write := descWrite d, address := p.regBase + (d.extractLsb' 0 8).toNat, width := .bits32, data := v }

/-- The access that carries an instruction's words: a command word is the data of WR CMD (R88). -/
def encodedAccess (p : Params) : Encoded → BusAccess
  | .cmdw w => descriptorAccess p 0x100 w
  | .bus d v => descriptorAccess p d v

/-- Put `e` before everything the host has yet to do and give the host the next move. -/
def State.issueNext (s : State) (e : HostEvent) : State :=
  if s.op = .idle then { s with pending := e :: s.pending }
  else { s with pending := e :: s.pending, schedule := .host :: s.schedule }

end Sys2Proof.Machine
end

