-- ==== Sys2Proof/Machine/Step.lean ====
section
/-! DEFINITION. One step of the machine: one host event or one engine step, each entire (20_memory R68). Where neither
agent can move, nothing changes (60_exceptions R236). -/
namespace Sys2Proof.Machine
open Sys2Proof

def step (s : State) : Host.Outcome State Fault Refusal :=
  match s.turn with
  | .nobody => .next s
  | .engine s' => engineStep s'
  | .host e s' =>
    match fetchEvent s'.params e with
    | .reset => .next s'.applyReset
    | .instr i => exec i s'
    | .refused r => .refused r

/-- `s` with the instruction of spec/opcode_table.json's numbering as the host's next access, made by the very next
step. A word that is no instruction's places nothing. -/
def State.withFetchWord (s : State) (nbits w : Nat) : State :=
  match tableWords nbits w with
  | some e => s.issueNext (.access (encodedAccess s.params e))
  | none => s

end Sys2Proof.Machine
end

