-- ==== Sys2Proof/Safety.lean ====
section
/-! DEFINITION. The terms the claims use: what an access leaves unchanged, how an access ends, the reset state, the
invariants of a run, and the source's scan algorithm written down on its own. -/
namespace Sys2Proof.Machine
open Sys2Proof

/-- The state elements of 10_state (STATUS bit by bit), and the model's own fields. -/
inductive Elem where
  | params | op | done
  | error (e : ErrorCode)
  | crc | bufLen | frameSize | start | count | bufAddr | tblIdx
  | cursor | validCount | badCount | resIdx
  | chkResult | chkComputed | chkStored | chkCounter
  | buf | res
  | epoch | pending | schedule | hostRead
  deriving DecidableEq, Repr

/-- The element is the same in both states; of `buf` every byte read, of `res` every entry. -/
def Elem.Same (s t : State) : Elem → Prop
  | .params => t.params = s.params
  | .op => t.op = s.op
  | .done => t.status.done = s.status.done
  | .error e => t.status.error e = s.status.error e
  | .crc => t.crc = s.crc
  | .bufLen => t.bufLen = s.bufLen
  | .frameSize => t.frameSize = s.frameSize
  | .start => t.start = s.start
  | .count => t.count = s.count
  | .bufAddr => t.bufAddr = s.bufAddr
  | .tblIdx => t.tblIdx = s.tblIdx
  | .cursor => t.cursor = s.cursor
  | .validCount => t.validCount = s.validCount
  | .badCount => t.badCount = s.badCount
  | .resIdx => t.resIdx = s.resIdx
  | .chkResult => t.chkResult = s.chkResult
  | .chkComputed => t.chkComputed = s.chkComputed
  | .chkStored => t.chkStored = s.chkStored
  | .chkCounter => t.chkCounter = s.chkCounter
  | .buf => ∀ a, t.bufByte a = s.bufByte a
  | .res => ∀ k, t.resEntry k = s.resEntry k
  | .epoch => t.epoch = s.epoch
  | .pending => t.pending = s.pending
  | .schedule => t.schedule = s.schedule
  | .hostRead => t.hostRead = s.hostRead

/-- The frame: every element that is not named is unchanged. -/
def UnchangedExcept (changed : List Elem) (s t : State) : Prop := ∀ e, e ∉ changed → e.Same s t

/-- A read: it answers a next state, the host has `v`, and nothing else changed (R67). -/
def ReadsAs (s : State) (r : Result) (v : Word) : Prop :=
  ∃ t, r = .next t ∧ t.hostRead = some v ∧ UnchangedExcept [.hostRead] s t

/-- An ignored write: it answers a next state in which nothing changed (R66). -/
def IgnoredBy (s : State) (r : Result) : Prop := ∃ t, r = .next t ∧ UnchangedExcept [] s t

/-- A write dropped by the lock: BUSY_ERR is set and nothing else changed (R192, R223). -/
def DroppedAsBusy (s : State) (r : Result) : Prop :=
  ∃ t, r = .next t ∧ t.status.error .busyErr = true ∧ UnchangedExcept [.error .busyErr] s t

/-- A command refused with the error `e`: its bit is set, DONE is 0, and nothing else changed (R201, R221). -/
def RefusedWith (e : ErrorCode) (s : State) (r : Result) : Prop :=
  ∃ t, r = .next t ∧ t.status.error e = true ∧ t.status.done = false ∧ UnchangedExcept [.done, .error e] s t

/-- The reset state (R251): `buf` and `res` are the free values of R252 and R253. -/
structure IsResetState (t : State) : Prop where
  op_idle : t.op = .idle
  status_zero : t.statusWord = 0
  crc_one : t.crc = 0x00000001
  buf_len : t.bufLen = 0
  frame_size : t.frameSize = 0x00000044
  start_zero : t.start = 0
  count_zero : t.count = 0
  buf_addr : t.bufAddr = 0
  tbl_idx : t.tblIdx = 0
  res_idx : t.resIdx = 0
  cursor_zero : t.cursor = 0
  valid_count : t.validCount = 0
  bad_count : t.badCount = 0
  chk_result : t.chkResult = 0
  chk_computed : t.chkComputed = 0
  chk_stored : t.chkStored = 0
  chk_counter : t.chkCounter = 0
  tbl_data : ReadsAs t (exec .rdTblData t) 0
  tbl_constant : ∀ i, ReadsAs { t with tblIdx := i } (exec .rdTblData { t with tblIdx := i }) (tbl i)
  res_offset : ReadsAs t (exec .rdResOffset t) 0
  res_counter : ReadsAs t (exec .rdResCounter t) 0
  buf_cap : ReadsAs t (exec .rdBufCapReg t) t.params.bufCap
  res_depth : ReadsAs t (exec .rdResDepthReg t) t.params.resDepth
  buf_free : ∀ a, t.bufByte a = Config.bufAtReset t.epoch a
  res_free : ∀ k, t.resEntry k = ⟨Config.resOffsetAtReset t.epoch k, Config.resCounterAtReset t.epoch k⟩

/-- What every run keeps: memories canonical and inside their bounds, readable results written, and a stepped command
inside the window its issue checked (R47, R61, R109, R160, R173, R175, R253). -/
structure State.Inv (s : State) : Prop where
  params_legal : s.params.Legal
  buf_canonical : Memory.wf s.buf
  buf_inside : ∀ c ∈ s.buf, c.1 < s.params.bufCap.toNat
  res_canonical : Memory.wf s.res
  res_inside : ∀ c ∈ s.res, c.1 < s.params.resDepth.toNat
  readable_written : ∀ k, k < s.nStored → (Memory.read? s.res k).isSome = true
  valid_bit : s.chkResult.getLsbD 2 = (s.chkResult.getLsbD 1 && s.chkResult.getLsbD 0)
  busy_not_done : s.op ≠ .idle → s.status.done = false
  range_window : s.op = .range → s.bufLen.toNat ≤ s.params.bufCap.toNat ∧ s.start.toNat ≤ s.cursor.toNat ∧
    s.cursor.toNat ≤ s.rangeEnd ∧ s.rangeEnd ≤ s.bufLen.toNat
  scan_config : s.op = .scan → s.bufLen.toNat ≤ s.params.bufCap.toNat ∧ Config.fsMin ≤ s.frameSize.toNat
  scan_cursor : s.op = .scan → (s.frameSize.toNat ≤ s.bufLen.toNat → s.cursor.toNat ≤ s.bufLen.toNat) ∧
    (s.bufLen.toNat < s.frameSize.toNat → s.cursor.toNat = 0)
  scan_counts : s.op = .scan →
    s.validCount.toNat * s.frameSize.toNat + s.badCount.toNat ≤ s.cursor.toNat ∧
    s.validCount.toNat + s.badCount.toNat ≤ s.bufLen.toNat + 1 - s.frameSize.toNat

/-- While a scan runs, each readable result is a valid frame of the buffer behind the cursor (R163, R166). -/
def State.ResultsValid (s : State) : Prop :=
  s.op = .scan → ∀ k, k < s.nStored →
    let e := s.resEntry k
    e.offset.toNat + s.frameSize.toNat ≤ s.cursor.toNat ∧
    e.offset.toNat + s.frameSize.toNat ≤ s.bufLen.toNat ∧
    s.hdrMatch e.offset.toNat = true ∧
    s.frameCrc e.offset.toNat s.frameSize.toNat = s.storedCrc e.offset.toNat s.frameSize.toNat ∧
    e.counter = s.counterAt e.offset.toNat

/-- While a scan runs, its readable results ascend by at least the frame size (R167). -/
def State.ResultsAscend (s : State) : Prop :=
  s.op = .scan → ∀ k, k + 1 < s.nStored →
    (s.resEntry k).offset.toNat + s.frameSize.toNat ≤ (s.resEntry (k + 1)).offset.toNat

/-- The source's scan (42_scan, §4.2 steps 1 to 3) from position `i`, as a recursion of its own with no engine: the
valid frames in order of discovery, and the number of bad hits. `fuel` bounds its rounds. -/
def sourceScan (s : State) : Nat → Nat → List (Nat × Word) × Nat
  | 0, _ => ([], 0)
  | fuel + 1, i =>
    if i + s.frameSize.toNat ≤ s.bufLen.toNat then
      if s.hdrMatch i then
        if s.frameCrc i s.frameSize.toNat = s.storedCrc i s.frameSize.toNat then
          ((i, s.counterAt i) :: (sourceScan s fuel (i + s.frameSize.toNat)).1,
            (sourceScan s fuel (i + s.frameSize.toNat)).2)
        else ((sourceScan s fuel (i + 1)).1, (sourceScan s fuel (i + 1)).2 + 1)
      else sourceScan s fuel (i + 1)
    else ([], 0)

/-- Run instructions one after another, each from the state the one before it left; the first stop ends the run. -/
def runInstrs : List Instr → State → Result
  | [], s => .next s
  | i :: rest, s =>
    match exec i s with
    | .next t => runInstrs rest t
    | .fault f => .fault f
    | .refused r => .refused r

/-- The host writes the lock of R192 covers. -/
def lockedWrites (v : Word) : List Instr :=
  [.wrCmd v, .wrCrc v, .wrBufLen v, .wrFrameSize v, .wrStart v, .wrCount v, .wrBufAddr v, .wrBufData v, .wrTblIdx v,
    .wrResIdx v]

/-- The six commands, each a WR CMD of its own word (R88). -/
def commandRows (b : Byte) : List Instr := [.nop, .crcInit, .crcByte b, .crcRange, .frameCheck, .scanStart]

/-- The host's next move, if it is the host's turn, is a pulse of the reset input. -/
def State.resetIsNext (s : State) : Prop := ∃ s', s.turn = .host .reset s'

/-- The host's next move, if it is the host's turn, is the register access that decodes to `i`. -/
def State.instrIsNext (s : State) (i : Instr) : Prop :=
  ∃ e s', s.turn = .host e s' ∧ fetchEvent s'.params e = .instr i

end Sys2Proof.Machine
end

