-- ==== Sys2Proof/Certificates/Slice0/Obligations.lean ====
section
/-! DEFINITION. The statements for the provers. Each docstring names the rule of spec/ it formalises. -/
open Sys2Proof Sys2Proof.Machine

/-! ### Reset, turns and fetching -/

/-- R251: the state after reset. (State.reset's parameters are the spec's example values, log entry 4; no clause
rests on them.) -/
def Obligations.ResetStateIsTheSpecs : Prop := IsResetState State.reset

/-- R250, R255: the reset input, a pulse (log entry 13), gives the reset state whatever the state was; what the
host has yet to do and the parameters stay. -/
def Obligations.ResetInputGivesResetState : Prop :=
  ∀ s s' : State, s.turn = .host .reset s' →
    ∃ t, step s = .next t ∧ IsResetState t ∧ t.params = s.params ∧ t.pending = s'.pending

/-- R71, R86: the host's next access, 32 bits wide and in the register space, is run as the instruction its descriptor
decodes to, from the state with that access taken; its turn comes at once while op is IDLE, and by the schedule else. -/
def Obligations.StepRunsTheDecodedAccess : Prop :=
  (∀ (s : State) (a : BusAccess) (rest : List HostEvent), s.op = .idle → s.pending = .access a :: rest →
    a.width = .bits32 → inRegisterSpace s.params a.address = true →
    step s = exec (decodeBus (accessDescriptor s.params a) a.data) { s with pending := rest }) ∧
  (∀ (s : State) (a : BusAccess) (rest : List HostEvent) (later : List Agent), s.op ≠ .idle →
    s.pending = .access a :: rest → s.schedule = .host :: later →
    a.width = .bits32 → inRegisterSpace s.params a.address = true →
    step s = exec (decodeBus (accessDescriptor s.params a) a.data) { s with pending := rest, schedule := later })

/-- R41, R71, R236, R260: with nothing to do nothing changes; a busy engine with no host event, or whose turn the
schedule says it is, or with a schedule that has run out (log entry 2), takes an engine step. -/
def Obligations.EngineStepsWhileBusy : Prop :=
  (∀ s : State, s.op = .idle → s.pending = [] → step s = .next s) ∧
  (∀ s : State, s.op ≠ .idle → s.pending = [] → step s = engineStep s) ∧
  (∀ s : State, s.op ≠ .idle → s.schedule = [] → step s = engineStep s) ∧
  (∀ (s : State) (later : List Agent), s.op ≠ .idle → s.pending ≠ [] → s.schedule = .engine :: later →
    step s = engineStep { s with schedule := later })

/-- A 32-bit access outside the 256 bytes at REG_BASE is refused (R60; the model's choice, log entry 12). -/
def Obligations.AccessesOutsideTheSpaceAreRefused : Prop :=
  ∀ (s s' : State) (a : BusAccess), s.turn = .host (.access a) s' → a.width = .bits32 →
    inRegisterSpace s'.params a.address = false → step s = .refused .outsideRegisterSpace

/-- The instruction a table word decodes to is the one the next step runs when that word is the host's next access,
from every state (R86, R88, R201; log entries 8 and 15). -/
def Obligations.TableWordRunsNext : Prop :=
  ∀ (s : State) (nbits w : Nat) (i : Instr), decodeTableWord nbits w = some i →
    step (s.withFetchWord nbits w) = exec i s

/-! ### Encoding -/

/-- Every well-formed instruction decodes from its own words (R82, R86). -/
def Obligations.DecodeEncodeAgree : Prop := ∀ i : Instr, i.wellFormed = true → decode (encode i) = .ok i

/-- R86: every descriptor is an access of exactly one row, and encodes back to itself. That a read's data value is
encoded as 0 is the model's choice (log entries 10 and 15): R86's data value of a read is the one returned. -/
def Obligations.EveryDescriptorRoundTrips : Prop :=
  ∀ (d : Descriptor) (v : Word),
    (decodeBus d v).wellFormed = true ∧ encode (decodeBus d v) = .bus d (busData d v)

/-- R82: a command word is a command exactly when it is one of the listed words. -/
def Obligations.OnlyTheListedWordsAreLegal : Prop :=
  ∀ (w : Word) (c : Command), decodeCommand w = .ok c ↔
    (c = .nop ∧ w = 0x00000000) ∨ (c = .crcInit ∧ w = 0x01000000) ∨
    (∃ b : Byte, c = .crcByte b ∧ w = 0x02000000 ||| b.setWidth 32) ∨
    (c = .crcRange ∧ w = 0x03000000) ∨ (c = .frameCheck ∧ w = 0x04000000) ∨ (c = .scanStart ∧ w = 0x05000000)

/-- A few words written out from R82, R86 and the register map of R20. The model's choice is the 16-bit numbering of a
descriptor and the data value 0 of the two writes (log entry 15), and the data value 0 of the misaligned read (log
entry 10). -/
def Obligations.WrittenOutWordsDecode : Prop :=
  decodeTableWord 32 0x020000A5 = some (.crcByte 0xA5) ∧ decodeTableWord 32 0x04000000 = some .frameCheck ∧
  decodeTableWord 16 0x108 = some (.wrCrc 0) ∧ decodeTableWord 16 0x02C = some .rdCursor ∧
  decodeTableWord 16 0x17C = some (.wrReserved60to7C 0x1F 0) ∧ decodeTableWord 32 0x02000100 = none ∧
  decodeTableWord 16 0x009 = some (.misaligned01 false 2 0)

/-! ### Dispatch, lock and errors -/

/-- R201, R88: a CMD write is dropped while busy, refused if its word is illegal, and else runs its command with DONE
cleared first; a command row does what the CMD write of its word does. -/
def Obligations.CmdWriteDispatches : Prop :=
  (∀ (s : State) (v : Word), s.op ≠ .idle → DroppedAsBusy s (exec (.wrCmd v) s)) ∧
  (∀ (s : State) (v : Word) (r : DecodeRefusal), s.op = .idle → decodeCommand v = .error r →
    RefusedWith .cmdErr s (exec (.wrCmd v) s)) ∧
  (∀ (s : State) (v : Word) (c : Command), s.op = .idle → decodeCommand v = .ok c →
    exec (.wrCmd v) s = .next (s.beginCommand.runCommand c)) ∧
  (∀ (s : State) (c : Command), exec (.wrCmd (encodeCommand c)) s = exec (commandInstr c) s)

/-- R224: with op IDLE, an illegal command word sets CMD_ERR, and has no other effect than clearing DONE (R201). -/
def Obligations.IllegalWordSetsCmdErrOnly : Prop :=
  ∀ (s : State) (w : Word), s.op = .idle →
    (0x06 ≤ (w.extractLsb' 24 8).toNat ∨ w.extractLsb' 8 16 ≠ 0 ∨
      (w.extractLsb' 0 8 ≠ 0 ∧ (w.extractLsb' 24 8).toNat ≠ 0x02)) →
    RefusedWith .cmdErr s (exec (.wrCmd w) s)

/-- R192, R223: while op is not IDLE each locked write, and each command, is dropped with BUSY_ERR. -/
def Obligations.LockedWritesAreDroppedWhileBusy : Prop :=
  ∀ (s : State) (v : Word) (b : Byte) (i : Instr), s.op ≠ .idle → i ∈ lockedWrites v ++ commandRows b →
    DroppedAsBusy s (exec i s)

/-- R193: NOP with op IDLE sets DONE and changes nothing else; busy it is dropped; with an operand it is illegal. -/
def Obligations.NopSetsDoneOnly : Prop :=
  (∀ s : State, s.op = .idle → ∃ t, exec .nop s = .next t ∧ t.status.done = true ∧ UnchangedExcept [.done] s t) ∧
  (∀ s : State, s.op ≠ .idle → DroppedAsBusy s (exec .nop s)) ∧
  (∀ (s : State) (v : Word), s.op = .idle → v.extractLsb' 24 8 = 0x00 → v.extractLsb' 0 24 ≠ 0 →
    RefusedWith .cmdErr s (exec (.wrCmd v) s)) ∧
  decode (.cmdw 0x00000000) = .ok .nop

/-- R107: CRC_INIT loads the default seed. -/
def Obligations.CrcInitLoadsSeedOne : Prop :=
  (∀ s : State, s.op = .idle →
    ∃ t, exec .crcInit s = .next t ∧ t.crc = 0x00000001 ∧ t.status.done = true ∧ UnchangedExcept [.crc, .done] s t) ∧
  (∀ s : State, s.op ≠ .idle → DroppedAsBusy s (exec .crcInit s)) ∧
  (∀ (s : State) (v : Word), s.op = .idle → v.extractLsb' 24 8 = 0x01 → v.extractLsb' 0 24 ≠ 0 →
    RefusedWith .cmdErr s (exec (.wrCmd v) s)) ∧
  decode (.cmdw 0x01000000) = .ok .crcInit

/-- R108: CRC_BYTE feeds its byte. -/
def Obligations.CrcByteFeedsOneByte : Prop :=
  (∀ (s : State) (b : Byte), s.op = .idle →
    ∃ t, exec (.crcByte b) s = .next t ∧ t.crc = crcStep s.crc b ∧ t.status.done = true ∧
      UnchangedExcept [.crc, .done] s t) ∧
  (∀ (s : State) (b : Byte), s.op ≠ .idle → DroppedAsBusy s (exec (.crcByte b) s)) ∧
  (∀ (s : State) (v : Word), s.op = .idle → v.extractLsb' 24 8 = 0x02 → v.extractLsb' 8 16 ≠ 0 →
    RefusedWith .cmdErr s (exec (.wrCmd v) s)) ∧
  ∀ b : Byte, decode (.cmdw (0x02000000 ||| b.setWidth 32)) = .ok (.crcByte b)

/-- R109: the issue of CRC_RANGE; the sum START + COUNT is mathematical. -/
def Obligations.CrcRangeIssueChecksItsWindow : Prop :=
  decode (.cmdw 0x03000000) = .ok .crcRange ∧ ∀ s : State, s.op = .idle →
    (s.params.bufCap.toNat < s.bufLen.toNat → RefusedWith .cfgErr s (exec .crcRange s)) ∧
    (s.bufLen.toNat ≤ s.params.bufCap.toNat → s.bufLen.toNat < s.start.toNat + s.count.toNat →
      RefusedWith .rangeErr s (exec .crcRange s)) ∧
    (s.bufLen.toNat ≤ s.params.bufCap.toNat → s.start.toNat + s.count.toNat ≤ s.bufLen.toNat →
      ∃ t, exec .crcRange s = .next t ∧ t.op = .range ∧ t.cursor = s.start ∧ t.status.done = false ∧
        UnchangedExcept [.op, .cursor, .done] s t)

/-- R135: FRAME_CHECK classifies the candidate at START into the CHK registers, or is refused with them unchanged. -/
def Obligations.FrameCheckClassifies : Prop :=
  (∀ s : State, s.op = .idle →
    (s.params.bufCap.toNat < s.bufLen.toNat ∨ s.frameSize.toNat < 60 → RefusedWith .cfgErr s (exec .frameCheck s)) ∧
    (s.bufLen.toNat ≤ s.params.bufCap.toNat → 60 ≤ s.frameSize.toNat →
      s.bufLen.toNat < s.start.toNat + s.frameSize.toNat → RefusedWith .rangeErr s (exec .frameCheck s)) ∧
    (s.bufLen.toNat ≤ s.params.bufCap.toNat → 60 ≤ s.frameSize.toNat →
      s.start.toNat + s.frameSize.toNat ≤ s.bufLen.toNat →
      ∃ t, exec .frameCheck s = .next t ∧
        t.chkResult.setWidth 32 =
          bitWord (s.hdrMatch s.start.toNat && s.crcMatch s.start.toNat s.frameSize.toNat) <<< 2 |||
          bitWord (s.crcMatch s.start.toNat s.frameSize.toNat) <<< 1 ||| bitWord (s.hdrMatch s.start.toNat) ∧
        t.chkComputed = crcUpdate (s.memBytes s.start.toNat (s.frameSize.toNat - 4)) 0x00000001 ∧
        t.chkStored = s.memRead (s.start.toNat + s.frameSize.toNat - 4) ∧
        t.chkCounter = s.memRead (s.start.toNat + 56) ∧ t.status.done = true ∧
        UnchangedExcept [.chkResult, .chkComputed, .chkStored, .chkCounter, .done] s t)) ∧
  (∀ s : State, s.op ≠ .idle → DroppedAsBusy s (exec .frameCheck s)) ∧
  (∀ (s : State) (v : Word), s.op = .idle → v.extractLsb' 24 8 = 0x04 → v.extractLsb' 0 24 ≠ 0 →
    RefusedWith .cmdErr s (exec (.wrCmd v) s)) ∧
  decode (.cmdw 0x04000000) = .ok .frameCheck

/-- R160: the issue of SCAN_START. -/
def Obligations.ScanStartIssue : Prop :=
  (∀ s : State, s.op = .idle →
    (s.params.bufCap.toNat < s.bufLen.toNat ∨ s.frameSize.toNat < 60 → RefusedWith .cfgErr s (exec .scanStart s)) ∧
    (s.bufLen.toNat ≤ s.params.bufCap.toNat → 60 ≤ s.frameSize.toNat →
      ∃ t, exec .scanStart s = .next t ∧ t.op = .scan ∧ t.cursor = 0 ∧ t.validCount = 0 ∧ t.badCount = 0 ∧
        t.nStored = 0 ∧ t.status.done = false ∧
        UnchangedExcept [.op, .cursor, .validCount, .badCount, .done] s t)) ∧
  (∀ s : State, s.op ≠ .idle → DroppedAsBusy s (exec .scanStart s)) ∧
  (∀ (s : State) (v : Word), s.op = .idle → v.extractLsb' 24 8 = 0x05 → v.extractLsb' 0 24 ≠ 0 →
    RefusedWith .cmdErr s (exec (.wrCmd v) s)) ∧
  decode (.cmdw 0x05000000) = .ok .scanStart

/-- R199: a STATUS write clears the sticky bits it has a 1 for, whatever op is, and changes nothing else. -/
def Obligations.StatusWriteClearsItsBits : Prop :=
  (∀ (s : State) (v : Word), ∃ t, exec (.wrStatus v) s = .next t ∧
    t.status.cmdErr = (s.status.cmdErr && !v.getLsbD 2) ∧ t.status.cfgErr = (s.status.cfgErr && !v.getLsbD 3) ∧
    t.status.rangeErr = (s.status.rangeErr && !v.getLsbD 4) ∧ t.status.busyErr = (s.status.busyErr && !v.getLsbD 5) ∧
    t.status.addrErr = (s.status.addrErr && !v.getLsbD 6) ∧ t.status.resOvf = (s.status.resOvf && !v.getLsbD 7) ∧
    UnchangedExcept [.error .cmdErr, .error .cfgErr, .error .rangeErr, .error .busyErr, .error .addrErr, .error .resOvf]
      s t) ∧
  ∀ v : Word, decodeBus 0x104 v = .wrStatus v

/-- R198, R46, R200: a STATUS read returns the bits in their places, BUSY being op ≠ IDLE, and bits 31:8 as 0; CMD
reads 0. -/
def Obligations.StatusAndCmdReads : Prop :=
  (∀ v : Word, decodeBus 0x000 v = .rdCmd ∧ decodeBus 0x004 v = .rdStatus) ∧
  ∀ s : State, ReadsAs s (exec .rdCmd s) 0 ∧ ∃ w : Word, ReadsAs s (exec .rdStatus s) w ∧
    (w.getLsbD 0 = true ↔ s.op ≠ .idle) ∧ w.getLsbD 1 = s.status.done ∧ w.getLsbD 2 = s.status.cmdErr ∧
    w.getLsbD 3 = s.status.cfgErr ∧ w.getLsbD 4 = s.status.rangeErr ∧ w.getLsbD 5 = s.status.busyErr ∧
    w.getLsbD 6 = s.status.addrErr ∧ w.getLsbD 7 = s.status.resOvf ∧ (∀ k, 8 ≤ k → w.getLsbD k = false)

/-! ### Registers -/

/-- R105, R106: CRC. -/
def Obligations.CrcRegisterReadAndWrite : Prop :=
  (∀ s : State, ReadsAs s (exec .rdCrc s) s.crc) ∧
  (∀ (s : State) (v : Word), s.op = .idle →
    ∃ t, exec (.wrCrc v) s = .next t ∧ t.crc = v ∧ UnchangedExcept [.crc] s t) ∧
  (∀ (s : State) (v : Word), s.op ≠ .idle → DroppedAsBusy s (exec (.wrCrc v) s)) ∧
  ∀ v : Word, decodeBus 0x008 v = .rdCrc ∧ decodeBus 0x108 v = .wrCrc v

/-- R101, R111: TBL_IDX stores bits 7:0 and TBL_DATA shows its entry. -/
def Obligations.TableReadPort : Prop :=
  (∀ s : State, ReadsAs s (exec .rdTblData s) (tbl s.tblIdx)) ∧
  (∀ s : State, ReadsAs s (exec .rdTblIdx s) (s.tblIdx.setWidth 32)) ∧
  (∀ (s : State) (v : Word), s.op = .idle →
    ∃ t, exec (.wrTblIdx v) s = .next t ∧ t.tblIdx = v.extractLsb' 0 8 ∧ UnchangedExcept [.tblIdx] s t) ∧
  (∀ (s : State) (v : Word), s.op ≠ .idle → DroppedAsBusy s (exec (.wrTblIdx v) s)) ∧
  (∀ (s : State) (v : Word), IgnoredBy s (exec (.wrTblDataIgnored v) s)) ∧
  ∀ v : Word, decodeBus 0x028 v = .rdTblData ∧ decodeBus 0x128 v = .wrTblDataIgnored v ∧ decodeBus 0x024 v = .rdTblIdx ∧
    decodeBus 0x124 v = .wrTblIdx v

/-- R197: BUF_LEN, FRAME_SIZE, START and COUNT. -/
def Obligations.ConfigurationRegisters : Prop :=
  (∀ s : State, ReadsAs s (exec .rdBufLen s) s.bufLen ∧ ReadsAs s (exec .rdFrameSize s) s.frameSize ∧
    ReadsAs s (exec .rdStart s) s.start ∧ ReadsAs s (exec .rdCount s) s.count) ∧
  (∀ (s : State) (v : Word), s.op = .idle →
    (∃ t, exec (.wrBufLen v) s = .next t ∧ t.bufLen = v ∧ UnchangedExcept [.bufLen] s t) ∧
    (∃ t, exec (.wrFrameSize v) s = .next t ∧ t.frameSize = v ∧ UnchangedExcept [.frameSize] s t) ∧
    (∃ t, exec (.wrStart v) s = .next t ∧ t.start = v ∧ UnchangedExcept [.start] s t) ∧
    (∃ t, exec (.wrCount v) s = .next t ∧ t.count = v ∧ UnchangedExcept [.count] s t)) ∧
  (∀ (s : State) (v : Word), s.op ≠ .idle →
    DroppedAsBusy s (exec (.wrBufLen v) s) ∧ DroppedAsBusy s (exec (.wrFrameSize v) s) ∧
    DroppedAsBusy s (exec (.wrStart v) s) ∧ DroppedAsBusy s (exec (.wrCount v) s)) ∧
  ∀ v : Word, decodeBus 0x00C v = .rdBufLen ∧ decodeBus 0x10C v = .wrBufLen v ∧ decodeBus 0x010 v = .rdFrameSize ∧
    decodeBus 0x110 v = .wrFrameSize v ∧ decodeBus 0x014 v = .rdStart ∧ decodeBus 0x114 v = .wrStart v ∧
    decodeBus 0x018 v = .rdCount ∧ decodeBus 0x118 v = .wrCount v

/-- R194: BUF_ADDR. -/
def Obligations.BufAddrReadAndWrite : Prop :=
  (∀ s : State, ReadsAs s (exec .rdBufAddr s) s.bufAddr) ∧
  (∀ (s : State) (v : Word), s.op = .idle →
    ∃ t, exec (.wrBufAddr v) s = .next t ∧ t.bufAddr = v ∧ UnchangedExcept [.bufAddr] s t) ∧
  (∀ (s : State) (v : Word), s.op ≠ .idle → DroppedAsBusy s (exec (.wrBufAddr v) s)) ∧
  ∀ v : Word, decodeBus 0x01C v = .rdBufAddr ∧ decodeBus 0x11C v = .wrBufAddr v

/-- R195: a BUF_DATA write stores bits 7:0 at BUF_ADDR and advances it, or raises ADDR_ERR; every other byte of `buf`
reads as before. -/
def Obligations.BufDataWriteStoresOneByte : Prop :=
  (∀ (s : State) (v : Word), s.op = .idle → s.bufAddr.toNat < s.params.bufCap.toNat →
    ∃ t, exec (.wrBufData v) s = .next t ∧ t.bufByte s.bufAddr.toNat = v.extractLsb' 0 8 ∧
      (∀ a, a ≠ s.bufAddr.toNat → t.bufByte a = s.bufByte a) ∧ t.bufAddr.toNat = s.bufAddr.toNat + 1 ∧
      UnchangedExcept [.buf, .bufAddr] s t) ∧
  (∀ (s : State) (v : Word), s.op = .idle → s.params.bufCap.toNat ≤ s.bufAddr.toNat →
    ∃ t, exec (.wrBufData v) s = .next t ∧ t.status.error .addrErr = true ∧ UnchangedExcept [.error .addrErr] s t) ∧
  (∀ (s : State) (v : Word), s.op ≠ .idle → DroppedAsBusy s (exec (.wrBufData v) s)) ∧
  ∀ v : Word, decodeBus 0x120 v = .wrBufData v

/-- R196, R252: a BUF_DATA read shows the byte at BUF_ADDR, 0 from BUF_CAP on; a byte that is not listed as written
since reset is the free value. -/
def Obligations.BufDataReadShowsOneByte : Prop :=
  (∀ s : State, s.bufAddr.toNat < s.params.bufCap.toNat →
    ReadsAs s (exec .rdBufData s) ((s.bufByte s.bufAddr.toNat).setWidth 32)) ∧
  (∀ s : State, s.params.bufCap.toNat ≤ s.bufAddr.toNat → ReadsAs s (exec .rdBufData s) 0) ∧
  (∀ s : State, s.bufAddr.toNat < s.params.bufCap.toNat → (∀ c ∈ s.buf, c.1 ≠ s.bufAddr.toNat) →
    ReadsAs s (exec .rdBufData s) ((Config.bufAtReset s.epoch s.bufAddr.toNat).setWidth 32)) ∧
  ∀ v : Word, decodeBus 0x020 v = .rdBufData

/-- R170: RES_IDX. -/
def Obligations.ResIdxReadAndWrite : Prop :=
  (∀ s : State, ReadsAs s (exec .rdResIdx s) s.resIdx) ∧
  (∀ (s : State) (v : Word), s.op = .idle →
    ∃ t, exec (.wrResIdx v) s = .next t ∧ t.resIdx = v ∧ UnchangedExcept [.resIdx] s t) ∧
  (∀ (s : State) (v : Word), s.op ≠ .idle → DroppedAsBusy s (exec (.wrResIdx v) s)) ∧
  ∀ v : Word, decodeBus 0x038 v = .rdResIdx ∧ decodeBus 0x138 v = .wrResIdx v

/-- R171: RES_OFFSET and RES_COUNTER show entry RES_IDX below min(VALID_COUNT, RES_DEPTH), and 0 from there on. -/
def Obligations.ResultReadPort : Prop :=
  (∀ s : State, s.resIdx.toNat < min s.validCount.toNat s.params.resDepth.toNat →
    ReadsAs s (exec .rdResOffset s) (s.resEntry s.resIdx.toNat).offset ∧
    ReadsAs s (exec .rdResCounter s) (s.resEntry s.resIdx.toNat).counter) ∧
  (∀ s : State, min s.validCount.toNat s.params.resDepth.toNat ≤ s.resIdx.toNat →
    ReadsAs s (exec .rdResOffset s) 0 ∧ ReadsAs s (exec .rdResCounter s) 0) ∧
  ∀ v : Word, decodeBus 0x03C v = .rdResOffset ∧ decodeBus 0x040 v = .rdResCounter

/-- R172: the counts and the cursor, whatever op is; writes to them are ignored. -/
def Obligations.CountsAndCursorRead : Prop :=
  (∀ s : State, ReadsAs s (exec .rdValidCount s) s.validCount ∧ ReadsAs s (exec .rdBadCount s) s.badCount ∧
    ReadsAs s (exec .rdCursor s) s.cursor) ∧
  (∀ (s : State) (v : Word), IgnoredBy s (exec (.wrValidCountIgnored v) s) ∧
    IgnoredBy s (exec (.wrBadCountIgnored v) s) ∧ IgnoredBy s (exec (.wrCursorIgnored v) s)) ∧
  ∀ v : Word, decodeBus 0x030 v = .rdValidCount ∧ decodeBus 0x034 v = .rdBadCount ∧ decodeBus 0x02C v = .rdCursor

/-- R136: the CHK registers; CHK_RESULT's bits 31:3 read 0 (R37); writes to them are ignored. -/
def Obligations.CheckResultsRead : Prop :=
  (∀ s : State, ReadsAs s (exec .rdChkResult s) (s.chkResult.setWidth 32) ∧
    ReadsAs s (exec .rdChkComputed s) s.chkComputed ∧ ReadsAs s (exec .rdChkStored s) s.chkStored ∧
    ReadsAs s (exec .rdChkCounter s) s.chkCounter) ∧
  (∀ (s : State) (v : Word), IgnoredBy s (exec (.wrChkResultIgnored v) s) ∧
    IgnoredBy s (exec (.wrChkComputedIgnored v) s) ∧ IgnoredBy s (exec (.wrChkStoredIgnored v) s) ∧
    IgnoredBy s (exec (.wrChkCounterIgnored v) s)) ∧
  ∀ v : Word, decodeBus 0x044 v = .rdChkResult ∧ decodeBus 0x048 v = .rdChkComputed ∧
    decodeBus 0x04C v = .rdChkStored ∧ decodeBus 0x050 v = .rdChkCounter

/-- R202: the parameters. -/
def Obligations.ParametersRead : Prop :=
  (∀ s : State, ReadsAs s (exec .rdBufCapReg s) s.params.bufCap ∧
    ReadsAs s (exec .rdResDepthReg s) s.params.resDepth) ∧
  ∀ v : Word, decodeBus 0x054 v = .rdBufCapReg ∧ decodeBus 0x058 v = .rdResDepthReg

/-- R66: reserved offsets read 0, and writes to them and to the read-only registers are ignored, whatever op is. The
last clause says it of the bus descriptors, of offset 0x5C to 0xFC. -/
def Obligations.ReservedAndReadOnlyOffsets : Prop :=
  (∀ (s : State) (word : BitVec 6), ReadsAs s (exec .rdReserved5C s) 0 ∧
    ReadsAs s (exec (.rdReserved60to7C word) s) 0 ∧ ReadsAs s (exec (.rdReserved80toFC word) s) 0) ∧
  (∀ (s : State) (word : BitVec 6) (v : Word), IgnoredBy s (exec (.wrReserved5C v) s) ∧
    IgnoredBy s (exec (.wrReserved60to7C word v) s) ∧ IgnoredBy s (exec (.wrReserved80toFC word v) s)) ∧
  (∀ (s : State) (v : Word), ∀ i ∈ [Instr.wrTblDataIgnored v, .wrCursorIgnored v, .wrValidCountIgnored v,
    .wrBadCountIgnored v, .wrResOffsetIgnored v, .wrResCounterIgnored v, .wrChkResultIgnored v,
    .wrChkComputedIgnored v, .wrChkStoredIgnored v, .wrChkCounterIgnored v, .wrBufCapRegIgnored v,
    .wrResDepthRegIgnored v], IgnoredBy s (exec i s)) ∧
  (∀ (s : State) (d : Descriptor) (v : Word), descAl d = 0 → 0x17 ≤ (descWord d).toNat →
    if descWrite d = true then IgnoredBy s (exec (decodeBus d v) s) else ReadsAs s (exec (decodeBus d v) s) 0)

/-- R64: an access at an offset with bits 1:0 not 0 is refused, read or write, whatever the state; so is, when it is
fetched, one that is not 32 bits wide. The last clause says which descriptors are the misaligned ones. -/
def Obligations.OtherAccessesAreRefused : Prop :=
  (∀ (s : State) (write : Bool) (word : BitVec 6) (v : Word),
    exec (.misaligned01 write word v) s = .refused .misalignedAccess ∧
    exec (.misaligned10 write word v) s = .refused .misalignedAccess ∧
    exec (.misaligned11 write word v) s = .refused .misalignedAccess) ∧
  (∀ (s s' : State) (a : BusAccess), s.turn = .host (.access a) s' → a.width ≠ .bits32 →
    step s = .refused .accessWidth) ∧
  (∀ (s : State) (d : Descriptor) (v : Word), descAl d ≠ 0 → exec (decodeBus d v) s = .refused .misalignedAccess)

/-- R67: every aligned read, at any offset and whatever op is, completes and changes no state element. -/
def Obligations.ReadsHaveNoSideEffect : Prop :=
  ∀ (s : State) (d : Descriptor) (v : Word), descAl d = 0 → descWrite d = false →
    ∃ t, exec (decodeBus d v) s = .next t ∧ UnchangedExcept [.hostRead] s t

/-- R232: every aligned access and every command completes, in every state. -/
def Obligations.EveryAlignedAccessCompletes : Prop :=
  (∀ (s : State) (d : Descriptor) (v : Word), descAl d = 0 → ∃ t, exec (decodeBus d v) s = .next t) ∧
  (∀ (s : State) (c : Command), ∃ t, exec (commandInstr c) s = .next t)

/-! ### The engine -/

/-- R110: one engine step of CRC_RANGE. -/
def Obligations.RangeStepFeedsOneByte : Prop :=
  (∀ s : State, s.op = .range → s.cursor.toNat = s.start.toNat + s.count.toNat →
    ∃ t, engineStep s = .next t ∧ t.op = .idle ∧ t.status.done = true ∧ UnchangedExcept [.op, .done] s t) ∧
  (∀ s : State, s.op = .range → s.cursor.toNat ≠ s.start.toNat + s.count.toNat →
    s.cursor.toNat < s.params.bufCap.toNat →
    ∃ t, engineStep s = .next t ∧ t.crc = crcStep s.crc (s.bufByte s.cursor.toNat) ∧
      t.cursor.toNat = s.cursor.toNat + 1 ∧ UnchangedExcept [.crc, .cursor] s t)

/-- R165, R162, R164: the scan steps that record nothing. -/
def Obligations.ScanStepWithoutAFrame : Prop :=
  (∀ s : State, s.op = .scan → s.bufLen.toNat < s.cursor.toNat + s.frameSize.toNat →
    ∃ t, engineStep s = .next t ∧ t.op = .idle ∧ t.status.done = true ∧ UnchangedExcept [.op, .done] s t) ∧
  (∀ s : State, s.op = .scan → s.bufLen.toNat ≤ s.params.bufCap.toNat → 60 ≤ s.frameSize.toNat →
    s.cursor.toNat + s.frameSize.toNat ≤ s.bufLen.toNat → s.hdrMatch s.cursor.toNat = false →
    ∃ t, engineStep s = .next t ∧ t.cursor.toNat = s.cursor.toNat + 1 ∧ UnchangedExcept [.cursor] s t) ∧
  (∀ s : State, s.op = .scan → s.bufLen.toNat ≤ s.params.bufCap.toNat → 60 ≤ s.frameSize.toNat →
    s.cursor.toNat + s.frameSize.toNat ≤ s.bufLen.toNat → s.hdrMatch s.cursor.toNat = true →
    s.frameCrc s.cursor.toNat s.frameSize.toNat ≠ s.storedCrc s.cursor.toNat s.frameSize.toNat →
    ∃ t, engineStep s = .next t ∧ t.badCount = s.badCount + 1 ∧ t.cursor.toNat = s.cursor.toNat + 1 ∧
      UnchangedExcept [.badCount, .cursor] s t)

/-- R163, R166, R228: the scan step at a valid frame, with room in `res` and without. -/
def Obligations.ScanStepRecordsAValidFrame : Prop :=
  ∀ s : State, s.op = .scan → s.bufLen.toNat ≤ s.params.bufCap.toNat → 60 ≤ s.frameSize.toNat →
    s.cursor.toNat + s.frameSize.toNat ≤ s.bufLen.toNat → s.hdrMatch s.cursor.toNat = true →
    s.frameCrc s.cursor.toNat s.frameSize.toNat = s.storedCrc s.cursor.toNat s.frameSize.toNat →
    ∃ t, engineStep s = .next t ∧ t.validCount = s.validCount + 1 ∧
      t.cursor.toNat = s.cursor.toNat + s.frameSize.toNat ∧
      (if s.validCount.toNat < s.params.resDepth.toNat then
        t.resEntry s.validCount.toNat = ⟨s.cursor, s.counterAt s.cursor.toNat⟩ ∧
        (∀ k, k ≠ s.validCount.toNat → t.resEntry k = s.resEntry k) ∧
        UnchangedExcept [.validCount, .cursor, .res] s t
      else t.status.error .resOvf = true ∧ UnchangedExcept [.validCount, .cursor, .error .resOvf] s t)

/-- R110, R103: a CRC_RANGE of n bytes leaves CrcUpdate of them in CRC after exactly n + 1 engine steps, no sooner. -/
def Obligations.RangeComputesTheChecksum : Prop :=
  ∀ s : State, s.op = .idle → s.pending = [] → s.bufLen.toNat ≤ s.params.bufCap.toNat →
    s.start.toNat + s.count.toNat ≤ s.bufLen.toNat →
    ∃ s₁ t, exec .crcRange s = .next s₁ ∧ Host.Core.run Sys2Proof.core (s.count.toNat + 1) s₁ = .next t ∧
      (∀ k u, k ≤ s.count.toNat → Host.Core.run Sys2Proof.core k s₁ = .next u → u.op = .range) ∧
      t.op = .idle ∧ t.status.done = true ∧ t.cursor.toNat = s.start.toNat + s.count.toNat ∧
      t.crc = crcUpdate (s.memBytes s.start.toNat s.count.toNat) s.crc ∧
      UnchangedExcept [.crc, .cursor, .done] s t

/-- R160 to R166, R173, R256: a scan ends within max(L - fs + 1, 0) + 1 engine steps with the source algorithm's counts
and, as far as `res` has room, its results in order; RES_OVF is set if and only if it was or there was not room. The
cursor ends where no frame fits, inside the capture, or at 0 if none ever fits. -/
def Obligations.ScanMatchesTheSourceAlgorithm : Prop :=
  ∀ s : State, s.op = .idle → s.pending = [] → s.bufLen.toNat ≤ s.params.bufCap.toNat → 60 ≤ s.frameSize.toNat →
    ∃ s₁ t n, exec .scanStart s = .next s₁ ∧ n ≤ s.bufLen.toNat + 1 - s.frameSize.toNat + 1 ∧
      Host.Core.run Sys2Proof.core n s₁ = .next t ∧ t.op = .idle ∧ t.status.done = true ∧
      t.validCount.toNat = (sourceScan s (s.bufLen.toNat + 1) 0).1.length ∧
      t.badCount.toNat = (sourceScan s (s.bufLen.toNat + 1) 0).2 ∧
      s.bufLen.toNat < t.cursor.toNat + s.frameSize.toNat ∧
      (s.frameSize.toNat ≤ s.bufLen.toNat → t.cursor.toNat ≤ s.bufLen.toNat) ∧
      (s.bufLen.toNat < s.frameSize.toNat → t.cursor.toNat = 0) ∧
      (∀ k f, k < s.params.resDepth.toNat → (sourceScan s (s.bufLen.toNat + 1) 0).1[k]? = some f →
        (t.resEntry k).offset.toNat = f.1 ∧ (t.resEntry k).counter = f.2) ∧
      (t.status.error .resOvf = true ↔
        s.status.error .resOvf = true ∨ s.params.resDepth.toNat < (sourceScan s (s.bufLen.toNat + 1) 0).1.length) ∧
      UnchangedExcept [.cursor, .validCount, .badCount, .res, .done, .error .resOvf] s t

/-- R135, R161: VALID of a check at `a` is 1 exactly when a scan whose cursor is at `a` counts a valid frame there. -/
def Obligations.FrameCheckAgreesWithTheScan : Prop :=
  ∀ (s t u : State), s.op = .idle → s.bufLen.toNat ≤ s.params.bufCap.toNat → 60 ≤ s.frameSize.toNat →
    s.start.toNat + s.frameSize.toNat ≤ s.bufLen.toNat → exec .frameCheck s = .next t →
    engineStep { s with op := .scan, cursor := s.start } = .next u →
    (t.chkResult.getLsbD 2 = true ↔ u.validCount = s.validCount + 1)

/-! ### Invariants of every step -/

/-- The invariants hold at reset, where there is no result. -/
def Obligations.ResetHasTheInvariants : Prop :=
  State.reset.Inv ∧ State.reset.ResultsValid ∧ State.reset.ResultsAscend ∧ State.reset.nStored = 0

/-- Every step, of either agent, keeps the invariant: the memories stay canonical and inside BUF_CAP and RES_DEPTH, the
readable results are written ones (R253), and a command in progress stays inside its window and counts (R61, R175). -/
def Obligations.EveryStepKeepsTheInvariant : Prop :=
  ∀ s t : State, s.Inv → step s = .next t → t.Inv

/-- R110, R161 ("Errors: none"): where the invariant holds no step faults; the only stop is a refused host access. The
faults ruled out are the model's own (log entry 9), and the refusals left are those of log entries 10 to 12. -/
def Obligations.NoStepFaults : Prop :=
  ∀ s : State, s.Inv → (∃ t, step s = .next t) ∨ (∃ r, step s = .refused r ∧ ∃ a s', s.turn = .host (.access a) s')

/-- R163, R166, R61: every readable result of a running scan is a valid frame of the buffer behind the cursor. -/
def Obligations.ResultsStayValidFrames : Prop :=
  ∀ s t : State, s.Inv → s.ResultsValid → step s = .next t → t.ResultsValid

/-- R167: the results of a running scan ascend by at least the frame size. -/
def Obligations.ResultsStayAscending : Prop :=
  ∀ s t : State, s.Inv → s.ResultsValid → s.ResultsAscend → step s = .next t → t.ResultsAscend

/-- R175: the bounds of the counts at every point of a scan, and that the register increments do not wrap. -/
def Obligations.ScanCountsAreBounded : Prop :=
  ∀ s : State, s.Inv → s.op = .scan →
    s.validCount.toNat * s.frameSize.toNat ≤ s.bufLen.toNat ∧
    s.validCount.toNat + s.badCount.toNat ≤ s.bufLen.toNat + 1 - s.frameSize.toNat ∧
    (s.validCount + 1).toNat = s.validCount.toNat + 1 ∧ (s.badCount + 1).toNat = s.badCount.toNat + 1 ∧
    (s.cursor.toNat + s.frameSize.toNat ≤ s.bufLen.toNat →
      (s.cursor + s.frameSize).toNat = s.cursor.toNat + s.frameSize.toNat)

/-- R72, R259: while a command runs, no step of either agent but a reset changes what the engine reads. -/
def Obligations.BusyFreezesTheEnginesInputs : Prop :=
  ∀ s t : State, s.op ≠ .idle → ¬ s.resetIsNext → step s = .next t →
    t.bufLen = s.bufLen ∧ t.frameSize = s.frameSize ∧ t.start = s.start ∧ t.count = s.count ∧ t.buf = s.buf ∧
      t.params = s.params

/-- R72: while a command runs, a host access changes nothing of the command: only sticky bits and what the host reads. -/
def Obligations.HostCannotDisturbTheEngine : Prop :=
  ∀ (s t : State) (i : Instr), s.op ≠ .idle → exec i s = .next t →
    UnchangedExcept [.error .cmdErr, .error .cfgErr, .error .rangeErr, .error .busyErr, .error .addrErr, .error .resOvf,
      .hostRead] s t

/-- R222: an error bit that is 1 stays 1 through every step but a reset and a STATUS write with a 1 in its place. -/
def Obligations.ErrorBitsAreSticky : Prop :=
  ∀ (s t : State) (e : ErrorCode), step s = .next t → s.status.error e = true →
    t.status.error e = true ∨ s.resetIsNext ∨ ∃ v : Word, s.instrIsNext (.wrStatus v) ∧ v.getLsbD e.bit = true

/-- R229: one access raises at most one error. -/
def Obligations.OneErrorPerAccess : Prop :=
  ∀ (i : Instr) (s t : State) (e e' : ErrorCode), exec i s = .next t →
    s.status.error e = false → t.status.error e = true → s.status.error e' = false → t.status.error e' = true → e = e'

/-- R43, R75: only a BUF_DATA write and a reset change `buf`. -/
def Obligations.OnlyBufDataWritesChangeTheBuffer : Prop :=
  ∀ s t : State, step s = .next t → ¬ s.resetIsNext → (∀ v : Word, ¬ s.instrIsNext (.wrBufData v)) →
    ∀ a, t.bufByte a = s.bufByte a

/-- R169: a scan, from its issue to its last step, and FRAME_CHECK change none of CRC, START, COUNT and TBL_IDX, and a scan
none of the CHK registers. -/
def Obligations.ScanAndCheckLeaveTheAccumulator : Prop :=
  (∀ s t : State, s.op = .scan → engineStep s = .next t →
    t.crc = s.crc ∧ t.start = s.start ∧ t.count = s.count ∧ t.tblIdx = s.tblIdx ∧ t.chkResult = s.chkResult ∧
      t.chkComputed = s.chkComputed ∧ t.chkStored = s.chkStored ∧ t.chkCounter = s.chkCounter) ∧
  (∀ s t : State, exec .scanStart s = .next t →
    t.crc = s.crc ∧ t.start = s.start ∧ t.count = s.count ∧ t.tblIdx = s.tblIdx ∧ t.chkResult = s.chkResult ∧
      t.chkComputed = s.chkComputed ∧ t.chkStored = s.chkStored ∧ t.chkCounter = s.chkCounter) ∧
  (∀ s t : State, exec .frameCheck s = .next t →
    t.crc = s.crc ∧ t.start = s.start ∧ t.count = s.count ∧ t.tblIdx = s.tblIdx ∧ t.cursor = s.cursor ∧
      t.validCount = s.validCount ∧ t.badCount = s.badCount)

/-- R134, R75: what FRAME_CHECK delivers depends on no byte outside the window at START, and on no free value but
those of bytes in it. -/
def Obligations.FrameCheckReadsOnlyItsWindow : Prop :=
  ∀ s s' t t' : State, s.op = .idle → s'.op = .idle → s.params = s'.params → s.bufLen = s'.bufLen →
    s.frameSize = s'.frameSize → s.start = s'.start → s.bufLen.toNat ≤ s.params.bufCap.toNat →
    60 ≤ s.frameSize.toNat → s.start.toNat + s.frameSize.toNat ≤ s.bufLen.toNat →
    (∀ a, s.start.toNat ≤ a → a < s.start.toNat + s.frameSize.toNat → s.bufByte a = s'.bufByte a) →
    exec .frameCheck s = .next t → exec .frameCheck s' = .next t' →
    t.chkResult = t'.chkResult ∧ t.chkComputed = t'.chkComputed ∧ t.chkStored = t'.chkStored ∧
      t.chkCounter = t'.chkCounter

/-- R253: a result read never shows a free value: where it shows an entry, that entry is one a scan wrote. -/
def Obligations.UnwrittenResultsAreNeverSeen : Prop :=
  ∀ s : State, s.Inv → s.resIdx.toNat < s.nStored →
    ∃ e, (s.resIdx.toNat, e) ∈ s.res ∧ ReadsAs s (exec .rdResOffset s) e.offset ∧
      ReadsAs s (exec .rdResCounter s) e.counter

/-! ### The checksum functions -/

/-- R100's four entries, and 95_test_vectors section 2: the table is linear over exclusive-or. -/
def Obligations.TableContents : Prop :=
  (tbl 0 = 0x00000000 ∧ tbl 1 = 0x77073096 ∧ tbl 128 = 0xEDB88320 ∧ tbl 255 = 0x2D02EF8D) ∧
  ∀ i j : Byte, tbl (i ^^^ j) = tbl i ^^^ tbl j

/-- 40_crc's note (93, G1): the table step is eight bit-serial rounds of the accumulator with the byte folded in. -/
def Obligations.TableStepIsBitSerial : Prop :=
  ∀ (c : Word) (b : Byte), crcStep c b = crcRounds 8 (c ^^^ b.setWidth 32)

/-- R103: CrcUpdate step by step, with no final exclusive-or. -/
def Obligations.ChecksumUpdate : Prop :=
  (∀ seed : Word, crcUpdate [] seed = seed) ∧
  (∀ (bytes : List Byte) (b : Byte) (seed : Word),
    crcUpdate (bytes ++ [b]) seed =
      tbl ((crcUpdate bytes seed ^^^ b.setWidth 32).setWidth 8) ^^^ (crcUpdate bytes seed >>> 8))

/-- R104: feeding bytes one CRC_BYTE at a time, from an idle state, leaves CrcUpdate of them in CRC. -/
def Obligations.CrcBytesStreamTheChecksum : Prop :=
  ∀ (bytes : List Byte) (s : State), s.op = .idle → bytes ≠ [] →
    ∃ t, runInstrs (bytes.map .crcByte) s = .next t ∧ t.crc = crcUpdate bytes s.crc ∧ t.status.done = true ∧
      UnchangedExcept [.crc, .done] s t
end

