-- ==== Sys2Proof/Laws/State.lean ====
section
/-! SUPPORT. One lemma per field of State per named update, so that no proof unfolds a record update; and the same for
the bits of STATUS. -/
namespace Sys2Proof.Machine
open Sys2Proof

@[simp] theorem State.raise_params (s : State) (e : ErrorCode) : (s.raise e).params = s.params := rfl
@[simp] theorem State.raise_op (s : State) (e : ErrorCode) : (s.raise e).op = s.op := rfl
@[simp] theorem State.raise_status (s : State) (e : ErrorCode) : (s.raise e).status = s.status.raise e := rfl
@[simp] theorem State.raise_crc (s : State) (e : ErrorCode) : (s.raise e).crc = s.crc := rfl
@[simp] theorem State.raise_bufLen (s : State) (e : ErrorCode) : (s.raise e).bufLen = s.bufLen := rfl
@[simp] theorem State.raise_frameSize (s : State) (e : ErrorCode) : (s.raise e).frameSize = s.frameSize := rfl
@[simp] theorem State.raise_start (s : State) (e : ErrorCode) : (s.raise e).start = s.start := rfl
@[simp] theorem State.raise_count (s : State) (e : ErrorCode) : (s.raise e).count = s.count := rfl
@[simp] theorem State.raise_bufAddr (s : State) (e : ErrorCode) : (s.raise e).bufAddr = s.bufAddr := rfl
@[simp] theorem State.raise_tblIdx (s : State) (e : ErrorCode) : (s.raise e).tblIdx = s.tblIdx := rfl
@[simp] theorem State.raise_cursor (s : State) (e : ErrorCode) : (s.raise e).cursor = s.cursor := rfl
@[simp] theorem State.raise_validCount (s : State) (e : ErrorCode) : (s.raise e).validCount = s.validCount := rfl
@[simp] theorem State.raise_badCount (s : State) (e : ErrorCode) : (s.raise e).badCount = s.badCount := rfl
@[simp] theorem State.raise_resIdx (s : State) (e : ErrorCode) : (s.raise e).resIdx = s.resIdx := rfl
@[simp] theorem State.raise_chkResult (s : State) (e : ErrorCode) : (s.raise e).chkResult = s.chkResult := rfl
@[simp] theorem State.raise_chkComputed (s : State) (e : ErrorCode) : (s.raise e).chkComputed = s.chkComputed := rfl
@[simp] theorem State.raise_chkStored (s : State) (e : ErrorCode) : (s.raise e).chkStored = s.chkStored := rfl
@[simp] theorem State.raise_chkCounter (s : State) (e : ErrorCode) : (s.raise e).chkCounter = s.chkCounter := rfl
@[simp] theorem State.raise_buf (s : State) (e : ErrorCode) : (s.raise e).buf = s.buf := rfl
@[simp] theorem State.raise_res (s : State) (e : ErrorCode) : (s.raise e).res = s.res := rfl
@[simp] theorem State.raise_epoch (s : State) (e : ErrorCode) : (s.raise e).epoch = s.epoch := rfl
@[simp] theorem State.raise_pending (s : State) (e : ErrorCode) : (s.raise e).pending = s.pending := rfl
@[simp] theorem State.raise_schedule (s : State) (e : ErrorCode) : (s.raise e).schedule = s.schedule := rfl
@[simp] theorem State.raise_hostRead (s : State) (e : ErrorCode) : (s.raise e).hostRead = s.hostRead := rfl

@[simp] theorem State.complete_params (s : State) : s.complete.params = s.params := rfl
@[simp] theorem State.complete_op (s : State) : s.complete.op = s.op := rfl
@[simp] theorem State.complete_status (s : State) : s.complete.status = { s.status with done := true } := rfl
@[simp] theorem State.complete_crc (s : State) : s.complete.crc = s.crc := rfl
@[simp] theorem State.complete_bufLen (s : State) : s.complete.bufLen = s.bufLen := rfl
@[simp] theorem State.complete_frameSize (s : State) : s.complete.frameSize = s.frameSize := rfl
@[simp] theorem State.complete_start (s : State) : s.complete.start = s.start := rfl
@[simp] theorem State.complete_count (s : State) : s.complete.count = s.count := rfl
@[simp] theorem State.complete_bufAddr (s : State) : s.complete.bufAddr = s.bufAddr := rfl
@[simp] theorem State.complete_tblIdx (s : State) : s.complete.tblIdx = s.tblIdx := rfl
@[simp] theorem State.complete_cursor (s : State) : s.complete.cursor = s.cursor := rfl
@[simp] theorem State.complete_validCount (s : State) : s.complete.validCount = s.validCount := rfl
@[simp] theorem State.complete_badCount (s : State) : s.complete.badCount = s.badCount := rfl
@[simp] theorem State.complete_resIdx (s : State) : s.complete.resIdx = s.resIdx := rfl
@[simp] theorem State.complete_chkResult (s : State) : s.complete.chkResult = s.chkResult := rfl
@[simp] theorem State.complete_chkComputed (s : State) : s.complete.chkComputed = s.chkComputed := rfl
@[simp] theorem State.complete_chkStored (s : State) : s.complete.chkStored = s.chkStored := rfl
@[simp] theorem State.complete_chkCounter (s : State) : s.complete.chkCounter = s.chkCounter := rfl
@[simp] theorem State.complete_buf (s : State) : s.complete.buf = s.buf := rfl
@[simp] theorem State.complete_res (s : State) : s.complete.res = s.res := rfl
@[simp] theorem State.complete_epoch (s : State) : s.complete.epoch = s.epoch := rfl
@[simp] theorem State.complete_pending (s : State) : s.complete.pending = s.pending := rfl
@[simp] theorem State.complete_schedule (s : State) : s.complete.schedule = s.schedule := rfl
@[simp] theorem State.complete_hostRead (s : State) : s.complete.hostRead = s.hostRead := rfl

@[simp] theorem State.beginCommand_params (s : State) : s.beginCommand.params = s.params := rfl
@[simp] theorem State.beginCommand_op (s : State) : s.beginCommand.op = s.op := rfl
@[simp] theorem State.beginCommand_status (s : State) : s.beginCommand.status = { s.status with done := false } := rfl
@[simp] theorem State.beginCommand_crc (s : State) : s.beginCommand.crc = s.crc := rfl
@[simp] theorem State.beginCommand_bufLen (s : State) : s.beginCommand.bufLen = s.bufLen := rfl
@[simp] theorem State.beginCommand_frameSize (s : State) : s.beginCommand.frameSize = s.frameSize := rfl
@[simp] theorem State.beginCommand_start (s : State) : s.beginCommand.start = s.start := rfl
@[simp] theorem State.beginCommand_count (s : State) : s.beginCommand.count = s.count := rfl
@[simp] theorem State.beginCommand_bufAddr (s : State) : s.beginCommand.bufAddr = s.bufAddr := rfl
@[simp] theorem State.beginCommand_tblIdx (s : State) : s.beginCommand.tblIdx = s.tblIdx := rfl
@[simp] theorem State.beginCommand_cursor (s : State) : s.beginCommand.cursor = s.cursor := rfl
@[simp] theorem State.beginCommand_validCount (s : State) : s.beginCommand.validCount = s.validCount := rfl
@[simp] theorem State.beginCommand_badCount (s : State) : s.beginCommand.badCount = s.badCount := rfl
@[simp] theorem State.beginCommand_resIdx (s : State) : s.beginCommand.resIdx = s.resIdx := rfl
@[simp] theorem State.beginCommand_chkResult (s : State) : s.beginCommand.chkResult = s.chkResult := rfl
@[simp] theorem State.beginCommand_chkComputed (s : State) : s.beginCommand.chkComputed = s.chkComputed := rfl
@[simp] theorem State.beginCommand_chkStored (s : State) : s.beginCommand.chkStored = s.chkStored := rfl
@[simp] theorem State.beginCommand_chkCounter (s : State) : s.beginCommand.chkCounter = s.chkCounter := rfl
@[simp] theorem State.beginCommand_buf (s : State) : s.beginCommand.buf = s.buf := rfl
@[simp] theorem State.beginCommand_res (s : State) : s.beginCommand.res = s.res := rfl
@[simp] theorem State.beginCommand_epoch (s : State) : s.beginCommand.epoch = s.epoch := rfl
@[simp] theorem State.beginCommand_pending (s : State) : s.beginCommand.pending = s.pending := rfl
@[simp] theorem State.beginCommand_schedule (s : State) : s.beginCommand.schedule = s.schedule := rfl
@[simp] theorem State.beginCommand_hostRead (s : State) : s.beginCommand.hostRead = s.hostRead := rfl

@[simp] theorem State.finish_params (s : State) : s.finish.params = s.params := rfl
@[simp] theorem State.finish_op (s : State) : s.finish.op = .idle := rfl
@[simp] theorem State.finish_status (s : State) : s.finish.status = { s.status with done := true } := rfl
@[simp] theorem State.finish_crc (s : State) : s.finish.crc = s.crc := rfl
@[simp] theorem State.finish_bufLen (s : State) : s.finish.bufLen = s.bufLen := rfl
@[simp] theorem State.finish_frameSize (s : State) : s.finish.frameSize = s.frameSize := rfl
@[simp] theorem State.finish_start (s : State) : s.finish.start = s.start := rfl
@[simp] theorem State.finish_count (s : State) : s.finish.count = s.count := rfl
@[simp] theorem State.finish_bufAddr (s : State) : s.finish.bufAddr = s.bufAddr := rfl
@[simp] theorem State.finish_tblIdx (s : State) : s.finish.tblIdx = s.tblIdx := rfl
@[simp] theorem State.finish_cursor (s : State) : s.finish.cursor = s.cursor := rfl
@[simp] theorem State.finish_validCount (s : State) : s.finish.validCount = s.validCount := rfl
@[simp] theorem State.finish_badCount (s : State) : s.finish.badCount = s.badCount := rfl
@[simp] theorem State.finish_resIdx (s : State) : s.finish.resIdx = s.resIdx := rfl
@[simp] theorem State.finish_chkResult (s : State) : s.finish.chkResult = s.chkResult := rfl
@[simp] theorem State.finish_chkComputed (s : State) : s.finish.chkComputed = s.chkComputed := rfl
@[simp] theorem State.finish_chkStored (s : State) : s.finish.chkStored = s.chkStored := rfl
@[simp] theorem State.finish_chkCounter (s : State) : s.finish.chkCounter = s.chkCounter := rfl
@[simp] theorem State.finish_buf (s : State) : s.finish.buf = s.buf := rfl
@[simp] theorem State.finish_res (s : State) : s.finish.res = s.res := rfl
@[simp] theorem State.finish_epoch (s : State) : s.finish.epoch = s.epoch := rfl
@[simp] theorem State.finish_pending (s : State) : s.finish.pending = s.pending := rfl
@[simp] theorem State.finish_schedule (s : State) : s.finish.schedule = s.schedule := rfl
@[simp] theorem State.finish_hostRead (s : State) : s.finish.hostRead = s.hostRead := rfl

@[simp] theorem State.answer_params (s : State) (v : Word) : (s.answer v).params = s.params := rfl
@[simp] theorem State.answer_op (s : State) (v : Word) : (s.answer v).op = s.op := rfl
@[simp] theorem State.answer_status (s : State) (v : Word) : (s.answer v).status = s.status := rfl
@[simp] theorem State.answer_crc (s : State) (v : Word) : (s.answer v).crc = s.crc := rfl
@[simp] theorem State.answer_bufLen (s : State) (v : Word) : (s.answer v).bufLen = s.bufLen := rfl
@[simp] theorem State.answer_frameSize (s : State) (v : Word) : (s.answer v).frameSize = s.frameSize := rfl
@[simp] theorem State.answer_start (s : State) (v : Word) : (s.answer v).start = s.start := rfl
@[simp] theorem State.answer_count (s : State) (v : Word) : (s.answer v).count = s.count := rfl
@[simp] theorem State.answer_bufAddr (s : State) (v : Word) : (s.answer v).bufAddr = s.bufAddr := rfl
@[simp] theorem State.answer_tblIdx (s : State) (v : Word) : (s.answer v).tblIdx = s.tblIdx := rfl
@[simp] theorem State.answer_cursor (s : State) (v : Word) : (s.answer v).cursor = s.cursor := rfl
@[simp] theorem State.answer_validCount (s : State) (v : Word) : (s.answer v).validCount = s.validCount := rfl
@[simp] theorem State.answer_badCount (s : State) (v : Word) : (s.answer v).badCount = s.badCount := rfl
@[simp] theorem State.answer_resIdx (s : State) (v : Word) : (s.answer v).resIdx = s.resIdx := rfl
@[simp] theorem State.answer_chkResult (s : State) (v : Word) : (s.answer v).chkResult = s.chkResult := rfl
@[simp] theorem State.answer_chkComputed (s : State) (v : Word) : (s.answer v).chkComputed = s.chkComputed := rfl
@[simp] theorem State.answer_chkStored (s : State) (v : Word) : (s.answer v).chkStored = s.chkStored := rfl
@[simp] theorem State.answer_chkCounter (s : State) (v : Word) : (s.answer v).chkCounter = s.chkCounter := rfl
@[simp] theorem State.answer_buf (s : State) (v : Word) : (s.answer v).buf = s.buf := rfl
@[simp] theorem State.answer_res (s : State) (v : Word) : (s.answer v).res = s.res := rfl
@[simp] theorem State.answer_epoch (s : State) (v : Word) : (s.answer v).epoch = s.epoch := rfl
@[simp] theorem State.answer_pending (s : State) (v : Word) : (s.answer v).pending = s.pending := rfl
@[simp] theorem State.answer_schedule (s : State) (v : Word) : (s.answer v).schedule = s.schedule := rfl
@[simp] theorem State.answer_hostRead (s : State) (v : Word) : (s.answer v).hostRead = some v := rfl

@[simp] theorem State.writeByte_params (s : State) (a : Nat) (v : Byte) : (s.writeByte a v).params = s.params := rfl
@[simp] theorem State.writeByte_op (s : State) (a : Nat) (v : Byte) : (s.writeByte a v).op = s.op := rfl
@[simp] theorem State.writeByte_status (s : State) (a : Nat) (v : Byte) : (s.writeByte a v).status = s.status := rfl
@[simp] theorem State.writeByte_crc (s : State) (a : Nat) (v : Byte) : (s.writeByte a v).crc = s.crc := rfl
@[simp] theorem State.writeByte_bufLen (s : State) (a : Nat) (v : Byte) : (s.writeByte a v).bufLen = s.bufLen := rfl
@[simp] theorem State.writeByte_frameSize (s : State) (a : Nat) (v : Byte) : (s.writeByte a v).frameSize = s.frameSize := rfl
@[simp] theorem State.writeByte_start (s : State) (a : Nat) (v : Byte) : (s.writeByte a v).start = s.start := rfl
@[simp] theorem State.writeByte_count (s : State) (a : Nat) (v : Byte) : (s.writeByte a v).count = s.count := rfl
@[simp] theorem State.writeByte_bufAddr (s : State) (a : Nat) (v : Byte) : (s.writeByte a v).bufAddr = s.bufAddr := rfl
@[simp] theorem State.writeByte_tblIdx (s : State) (a : Nat) (v : Byte) : (s.writeByte a v).tblIdx = s.tblIdx := rfl
@[simp] theorem State.writeByte_cursor (s : State) (a : Nat) (v : Byte) : (s.writeByte a v).cursor = s.cursor := rfl
@[simp] theorem State.writeByte_validCount (s : State) (a : Nat) (v : Byte) : (s.writeByte a v).validCount = s.validCount := rfl
@[simp] theorem State.writeByte_badCount (s : State) (a : Nat) (v : Byte) : (s.writeByte a v).badCount = s.badCount := rfl
@[simp] theorem State.writeByte_resIdx (s : State) (a : Nat) (v : Byte) : (s.writeByte a v).resIdx = s.resIdx := rfl
@[simp] theorem State.writeByte_chkResult (s : State) (a : Nat) (v : Byte) : (s.writeByte a v).chkResult = s.chkResult := rfl
@[simp] theorem State.writeByte_chkComputed (s : State) (a : Nat) (v : Byte) : (s.writeByte a v).chkComputed = s.chkComputed := rfl
@[simp] theorem State.writeByte_chkStored (s : State) (a : Nat) (v : Byte) : (s.writeByte a v).chkStored = s.chkStored := rfl
@[simp] theorem State.writeByte_chkCounter (s : State) (a : Nat) (v : Byte) : (s.writeByte a v).chkCounter = s.chkCounter := rfl
@[simp] theorem State.writeByte_buf (s : State) (a : Nat) (v : Byte) : (s.writeByte a v).buf = Memory.write s.buf a v := rfl
@[simp] theorem State.writeByte_res (s : State) (a : Nat) (v : Byte) : (s.writeByte a v).res = s.res := rfl
@[simp] theorem State.writeByte_epoch (s : State) (a : Nat) (v : Byte) : (s.writeByte a v).epoch = s.epoch := rfl
@[simp] theorem State.writeByte_pending (s : State) (a : Nat) (v : Byte) : (s.writeByte a v).pending = s.pending := rfl
@[simp] theorem State.writeByte_schedule (s : State) (a : Nat) (v : Byte) : (s.writeByte a v).schedule = s.schedule := rfl
@[simp] theorem State.writeByte_hostRead (s : State) (a : Nat) (v : Byte) : (s.writeByte a v).hostRead = s.hostRead := rfl

@[simp] theorem State.recordCheck_params (s : State) : s.recordCheck.params = s.params := rfl
@[simp] theorem State.recordCheck_op (s : State) : s.recordCheck.op = s.op := rfl
@[simp] theorem State.recordCheck_status (s : State) : s.recordCheck.status = s.status := rfl
@[simp] theorem State.recordCheck_crc (s : State) : s.recordCheck.crc = s.crc := rfl
@[simp] theorem State.recordCheck_bufLen (s : State) : s.recordCheck.bufLen = s.bufLen := rfl
@[simp] theorem State.recordCheck_frameSize (s : State) : s.recordCheck.frameSize = s.frameSize := rfl
@[simp] theorem State.recordCheck_start (s : State) : s.recordCheck.start = s.start := rfl
@[simp] theorem State.recordCheck_count (s : State) : s.recordCheck.count = s.count := rfl
@[simp] theorem State.recordCheck_bufAddr (s : State) : s.recordCheck.bufAddr = s.bufAddr := rfl
@[simp] theorem State.recordCheck_tblIdx (s : State) : s.recordCheck.tblIdx = s.tblIdx := rfl
@[simp] theorem State.recordCheck_cursor (s : State) : s.recordCheck.cursor = s.cursor := rfl
@[simp] theorem State.recordCheck_validCount (s : State) : s.recordCheck.validCount = s.validCount := rfl
@[simp] theorem State.recordCheck_badCount (s : State) : s.recordCheck.badCount = s.badCount := rfl
@[simp] theorem State.recordCheck_resIdx (s : State) : s.recordCheck.resIdx = s.resIdx := rfl
@[simp] theorem State.recordCheck_chkResult (s : State) : s.recordCheck.chkResult = s.classBits s.start.toNat s.frameSize.toNat := rfl
@[simp] theorem State.recordCheck_chkComputed (s : State) : s.recordCheck.chkComputed = s.frameCrc s.start.toNat s.frameSize.toNat := rfl
@[simp] theorem State.recordCheck_chkStored (s : State) : s.recordCheck.chkStored = s.storedCrc s.start.toNat s.frameSize.toNat := rfl
@[simp] theorem State.recordCheck_chkCounter (s : State) : s.recordCheck.chkCounter = s.counterAt s.start.toNat := rfl
@[simp] theorem State.recordCheck_buf (s : State) : s.recordCheck.buf = s.buf := rfl
@[simp] theorem State.recordCheck_res (s : State) : s.recordCheck.res = s.res := rfl
@[simp] theorem State.recordCheck_epoch (s : State) : s.recordCheck.epoch = s.epoch := rfl
@[simp] theorem State.recordCheck_pending (s : State) : s.recordCheck.pending = s.pending := rfl
@[simp] theorem State.recordCheck_schedule (s : State) : s.recordCheck.schedule = s.schedule := rfl
@[simp] theorem State.recordCheck_hostRead (s : State) : s.recordCheck.hostRead = s.hostRead := rfl

@[simp] theorem State.skipByte_params (s : State) : s.skipByte.params = s.params := rfl
@[simp] theorem State.skipByte_op (s : State) : s.skipByte.op = s.op := rfl
@[simp] theorem State.skipByte_status (s : State) : s.skipByte.status = s.status := rfl
@[simp] theorem State.skipByte_crc (s : State) : s.skipByte.crc = s.crc := rfl
@[simp] theorem State.skipByte_bufLen (s : State) : s.skipByte.bufLen = s.bufLen := rfl
@[simp] theorem State.skipByte_frameSize (s : State) : s.skipByte.frameSize = s.frameSize := rfl
@[simp] theorem State.skipByte_start (s : State) : s.skipByte.start = s.start := rfl
@[simp] theorem State.skipByte_count (s : State) : s.skipByte.count = s.count := rfl
@[simp] theorem State.skipByte_bufAddr (s : State) : s.skipByte.bufAddr = s.bufAddr := rfl
@[simp] theorem State.skipByte_tblIdx (s : State) : s.skipByte.tblIdx = s.tblIdx := rfl
@[simp] theorem State.skipByte_cursor (s : State) : s.skipByte.cursor = s.cursor + 1 := rfl
@[simp] theorem State.skipByte_validCount (s : State) : s.skipByte.validCount = s.validCount := rfl
@[simp] theorem State.skipByte_badCount (s : State) : s.skipByte.badCount = s.badCount := rfl
@[simp] theorem State.skipByte_resIdx (s : State) : s.skipByte.resIdx = s.resIdx := rfl
@[simp] theorem State.skipByte_chkResult (s : State) : s.skipByte.chkResult = s.chkResult := rfl
@[simp] theorem State.skipByte_chkComputed (s : State) : s.skipByte.chkComputed = s.chkComputed := rfl
@[simp] theorem State.skipByte_chkStored (s : State) : s.skipByte.chkStored = s.chkStored := rfl
@[simp] theorem State.skipByte_chkCounter (s : State) : s.skipByte.chkCounter = s.chkCounter := rfl
@[simp] theorem State.skipByte_buf (s : State) : s.skipByte.buf = s.buf := rfl
@[simp] theorem State.skipByte_res (s : State) : s.skipByte.res = s.res := rfl
@[simp] theorem State.skipByte_epoch (s : State) : s.skipByte.epoch = s.epoch := rfl
@[simp] theorem State.skipByte_pending (s : State) : s.skipByte.pending = s.pending := rfl
@[simp] theorem State.skipByte_schedule (s : State) : s.skipByte.schedule = s.schedule := rfl
@[simp] theorem State.skipByte_hostRead (s : State) : s.skipByte.hostRead = s.hostRead := rfl

@[simp] theorem State.countBad_params (s : State) : s.countBad.params = s.params := rfl
@[simp] theorem State.countBad_op (s : State) : s.countBad.op = s.op := rfl
@[simp] theorem State.countBad_status (s : State) : s.countBad.status = s.status := rfl
@[simp] theorem State.countBad_crc (s : State) : s.countBad.crc = s.crc := rfl
@[simp] theorem State.countBad_bufLen (s : State) : s.countBad.bufLen = s.bufLen := rfl
@[simp] theorem State.countBad_frameSize (s : State) : s.countBad.frameSize = s.frameSize := rfl
@[simp] theorem State.countBad_start (s : State) : s.countBad.start = s.start := rfl
@[simp] theorem State.countBad_count (s : State) : s.countBad.count = s.count := rfl
@[simp] theorem State.countBad_bufAddr (s : State) : s.countBad.bufAddr = s.bufAddr := rfl
@[simp] theorem State.countBad_tblIdx (s : State) : s.countBad.tblIdx = s.tblIdx := rfl
@[simp] theorem State.countBad_cursor (s : State) : s.countBad.cursor = s.cursor + 1 := rfl
@[simp] theorem State.countBad_validCount (s : State) : s.countBad.validCount = s.validCount := rfl
@[simp] theorem State.countBad_badCount (s : State) : s.countBad.badCount = s.badCount + 1 := rfl
@[simp] theorem State.countBad_resIdx (s : State) : s.countBad.resIdx = s.resIdx := rfl
@[simp] theorem State.countBad_chkResult (s : State) : s.countBad.chkResult = s.chkResult := rfl
@[simp] theorem State.countBad_chkComputed (s : State) : s.countBad.chkComputed = s.chkComputed := rfl
@[simp] theorem State.countBad_chkStored (s : State) : s.countBad.chkStored = s.chkStored := rfl
@[simp] theorem State.countBad_chkCounter (s : State) : s.countBad.chkCounter = s.chkCounter := rfl
@[simp] theorem State.countBad_buf (s : State) : s.countBad.buf = s.buf := rfl
@[simp] theorem State.countBad_res (s : State) : s.countBad.res = s.res := rfl
@[simp] theorem State.countBad_epoch (s : State) : s.countBad.epoch = s.epoch := rfl
@[simp] theorem State.countBad_pending (s : State) : s.countBad.pending = s.pending := rfl
@[simp] theorem State.countBad_schedule (s : State) : s.countBad.schedule = s.schedule := rfl
@[simp] theorem State.countBad_hostRead (s : State) : s.countBad.hostRead = s.hostRead := rfl

@[simp] theorem Status.raise_done (st : Status) (e : ErrorCode) : (st.raise e).done = st.done := by cases e <;> rfl

theorem Status.raise_error (st : Status) (e e' : ErrorCode) :
    (st.raise e).error e' = (decide (e' = e) || st.error e') := by
  cases e <;> cases e' <;> rfl

@[simp] theorem Status.raise_error_self (st : Status) (e : ErrorCode) : (st.raise e).error e = true := by
  cases e <;> rfl

theorem Status.raise_error_of_ne (st : Status) {e e' : ErrorCode} (h : e' ≠ e) : (st.raise e).error e' = st.error e' := by
  simp [Status.raise_error, h]

@[simp] theorem Status.clear_done (st : Status) (v : Word) : (st.clear v).done = st.done := rfl

@[simp] theorem Status.clear_error (st : Status) (v : Word) (e : ErrorCode) :
    (st.clear v).error e = (st.error e && !v.getLsbD e.bit) := by
  cases e <;> rfl

@[simp] theorem Status.withDone_error (st : Status) (b : Bool) (e : ErrorCode) :
    ({ st with done := b } : Status).error e = st.error e := by
  cases e <;> rfl

end Sys2Proof.Machine
end

