-- ==== Sys2Proof/Laws/Memory.lean ====
section
/-! SUPPORT. The laws of sparse memory, of the bytes of `buf` and of the entries of `res`: a read after a write, and
that every operation keeps the canonical form. -/
namespace Sys2Proof.Machine
open Sys2Proof

variable {β : Type}

theorem Memory.wf_nil : Memory.wf ([] : Memory β) := List.Pairwise.nil

theorem Memory.wf_cons {k : Nat} {v : β} {t : Memory β} :
    Memory.wf ((k, v) :: t) ↔ (∀ c ∈ t, k < c.1) ∧ Memory.wf t := by
  simp [Memory.wf, List.pairwise_cons]

@[simp] theorem Memory.read?_write_self (m : Memory β) (a : Nat) (v : β) :
    Memory.read? (Memory.write m a v) a = some v := by
  induction m with
  | nil => simp [Memory.write, Memory.read?]
  | cons c t ih =>
    obtain ⟨k, w⟩ := c
    simp only [Memory.write]
    split
    · simp [Memory.read?]
    · split
      · simp [Memory.read?]
      · rename_i h
        simp [Memory.read?, h, ih]

theorem Memory.read?_write_of_ne (m : Memory β) {a b : Nat} (v : β) (hab : b ≠ a) :
    Memory.read? (Memory.write m a v) b = Memory.read? m b := by
  induction m with
  | nil => simp [Memory.write, Memory.read?, hab]
  | cons c t ih =>
    obtain ⟨k, w⟩ := c
    simp only [Memory.write]
    split
    · simp [Memory.read?, hab]
    · split
      · rename_i h
        subst h
        simp [Memory.read?, hab]
      · simp [Memory.read?, ih]

/-- What a write can list: the new entry, and what was listed. -/
theorem Memory.mem_write {m : Memory β} {a : Nat} {v : β} {c : Nat × β} (h : c ∈ Memory.write m a v) :
    c = (a, v) ∨ c ∈ m := by
  induction m with
  | nil => simpa [Memory.write] using h
  | cons d t ih =>
    obtain ⟨k, w⟩ := d
    simp only [Memory.write] at h
    split at h
    · simpa using h
    · split at h
      · simp only [List.mem_cons] at h ⊢
        tauto
      · simp only [List.mem_cons] at h ⊢
        rcases h with h | h
        · tauto
        · rcases ih h with h | h <;> tauto

/-- A write keeps the canonical form. -/
theorem Memory.wf_write {m : Memory β} (a : Nat) (v : β) (h : Memory.wf m) : Memory.wf (Memory.write m a v) := by
  induction m with
  | nil => simp [Memory.write, Memory.wf]
  | cons c t ih =>
    obtain ⟨k, w⟩ := c
    obtain ⟨hk, ht⟩ := Memory.wf_cons.1 h
    simp only [Memory.write]
    split
    · rename_i hlt
      exact Memory.wf_cons.2 ⟨fun c hc => by
        rcases List.mem_cons.1 hc with rfl | hc
        · exact hlt
        · exact hlt.trans (hk c hc), h⟩
    · split
      · rename_i heq
        subst heq
        exact Memory.wf_cons.2 ⟨hk, ht⟩
      · refine Memory.wf_cons.2 ⟨fun c hc => ?_, ih ht⟩
        rcases Memory.mem_write hc with rfl | hc
        · simp only
          omega
        · exact hk c hc

/-- What is read is listed. -/
theorem Memory.mem_of_read? {m : Memory β} {a : Nat} {v : β} (h : Memory.read? m a = some v) : (a, v) ∈ m := by
  induction m with
  | nil => simp [Memory.read?] at h
  | cons c t ih =>
    obtain ⟨k, w⟩ := c
    simp only [Memory.read?] at h
    split at h
    · rename_i hk
      simp_all
    · exact List.mem_cons_of_mem _ (ih h)

/-- Nothing is read where nothing is listed. -/
theorem Memory.read?_eq_none {m : Memory β} {a : Nat} (h : ∀ c ∈ m, c.1 ≠ a) : Memory.read? m a = none := by
  induction m with
  | nil => rfl
  | cons c t ih =>
    obtain ⟨k, w⟩ := c
    have hk : a ≠ k := fun hak => h (k, w) (by simp) hak.symm
    simp [Memory.read?, hk, ih fun c hc => h c (List.mem_cons_of_mem _ hc)]

/-- In canonical form what is listed is read. -/
theorem Memory.read?_of_mem {m : Memory β} (h : Memory.wf m) {a : Nat} {v : β} (hm : (a, v) ∈ m) :
    Memory.read? m a = some v := by
  induction m with
  | nil => simp at hm
  | cons c t ih =>
    obtain ⟨k, w⟩ := c
    obtain ⟨hk, ht⟩ := Memory.wf_cons.1 h
    rcases List.mem_cons.1 hm with h' | h'
    · simp only [Prod.mk.injEq] at h'
      simp [Memory.read?, h'.1, h'.2]
    · have := hk _ h'
      simp only at this
      rw [Memory.read?, if_neg (by omega), ih ht h']

@[simp] theorem State.bufByte_writeByte_self (s : State) (a : Nat) (v : Byte) : (s.writeByte a v).bufByte a = v := by
  simp [State.bufByte]

theorem State.bufByte_writeByte_of_ne (s : State) {a b : Nat} (v : Byte) (h : b ≠ a) :
    (s.writeByte a v).bufByte b = s.bufByte b := by
  simp [State.bufByte, Memory.read?_write_of_ne _ _ h]

/-- The bytes read depend on `buf` and the epoch only. -/
theorem State.bufByte_congr {s t : State} (hb : t.buf = s.buf) (he : t.epoch = s.epoch) : t.bufByte = s.bufByte := by
  funext a
  simp [State.bufByte, hb, he]

/-- The entries depend on `res` and the epoch only. -/
theorem State.resEntry_congr {s t : State} (hr : t.res = s.res) (he : t.epoch = s.epoch) :
    t.resEntry = s.resEntry := by
  funext k
  simp [State.resEntry, hr, he]

theorem State.memBytes_zero (s : State) (a : Nat) : s.memBytes a 0 = [] := rfl

theorem State.memBytes_succ (s : State) (a n : Nat) : s.memBytes a (n + 1) = s.memBytes a n ++ [s.bufByte (a + n)] := by
  simp [State.memBytes, List.range_succ]

@[simp] theorem State.memBytes_length (s : State) (a n : Nat) : (s.memBytes a n).length = n := by
  simp [State.memBytes]

/-- `memBytes` reads no byte outside [a, a + n). -/
theorem State.memBytes_eq {s t : State} {a n : Nat} (h : ∀ b, a ≤ b → b < a + n → s.bufByte b = t.bufByte b) :
    s.memBytes a n = t.memBytes a n :=
  List.map_congr_left fun _ hk => h _ (Nat.le_add_right _ _) (Nat.add_lt_add_left (List.mem_range.1 hk) _)

/-- `memRead` reads the four bytes from `a` on. -/
theorem State.memRead_eq {s t : State} {a : Nat} (h : ∀ b, a ≤ b → b < a + 4 → s.bufByte b = t.bufByte b) :
    s.memRead a = t.memRead a := by
  simp [State.memRead, h a (by omega) (by omega), h (a + 1) (by omega) (by omega), h (a + 2) (by omega) (by omega),
    h (a + 3) (by omega) (by omega)]

/-- `hdrMatch` reads the four bytes from `a` on. -/
theorem State.hdrMatch_eq {s t : State} {a : Nat} (h : ∀ b, a ≤ b → b < a + 4 → s.bufByte b = t.bufByte b) :
    s.hdrMatch a = t.hdrMatch a := by
  simp [State.hdrMatch, h a (by omega) (by omega), h (a + 1) (by omega) (by omega), h (a + 2) (by omega) (by omega),
    h (a + 3) (by omega) (by omega)]

/-- Nothing is listed at reset: both memories are canonical. -/
theorem State.reset_memory_wf : Memory.wf State.reset.buf ∧ Memory.wf State.reset.res :=
  ⟨Memory.wf_nil, Memory.wf_nil⟩

/-- Writing a byte keeps `buf` canonical. -/
theorem State.writeByte_wf {s : State} (a : Nat) (v : Byte) (h : Memory.wf s.buf) : Memory.wf (s.writeByte a v).buf :=
  Memory.wf_write a v h

end Sys2Proof.Machine
end

