-- ==== Sys2Proof/Laws/Ops.lean ====
section
/-! SUPPORT. One lemma per shared condition and operation: when it holds and what it gives. -/
namespace Sys2Proof.Machine
open Sys2Proof

theorem State.lenTooLong_iff (s : State) : s.lenTooLong = true ↔ s.params.bufCap.toNat < s.bufLen.toNat :=
  decide_eq_true_iff

theorem State.frameTooShort_iff (s : State) : s.frameTooShort = true ↔ s.frameSize.toNat < 60 := decide_eq_true_iff

theorem State.bufAddrOk_iff (s : State) : s.bufAddrOk = true ↔ s.bufAddr.toNat < s.params.bufCap.toNat :=
  decide_eq_true_iff

theorem State.scanAtEnd_iff (s : State) :
    s.scanAtEnd = true ↔ s.bufLen.toNat < s.cursor.toNat + s.frameSize.toNat := decide_eq_true_iff

@[simp] theorem State.beginCommand_lenTooLong (s : State) : s.beginCommand.lenTooLong = s.lenTooLong := rfl
@[simp] theorem State.beginCommand_frameTooShort (s : State) : s.beginCommand.frameTooShort = s.frameTooShort := rfl
@[simp] theorem State.beginCommand_rangeEnd (s : State) : s.beginCommand.rangeEnd = s.rangeEnd := rfl
@[simp] theorem State.beginCommand_frameEnd (s : State) : s.beginCommand.frameEnd = s.frameEnd := rfl

/-- The refusal of a command that reads BUF_LEN and, unless it is CRC_RANGE, FRAME_SIZE (R225). -/
theorem State.configBad_iff (s : State) :
    (s.lenTooLong || s.frameTooShort) = true ↔
      s.params.bufCap.toNat < s.bufLen.toNat ∨ s.frameSize.toNat < 60 := by
  rw [Bool.or_eq_true, s.lenTooLong_iff, s.frameTooShort_iff]

theorem State.runCrcRange_cfgErr {s : State} (h : s.params.bufCap.toNat < s.bufLen.toNat) :
    s.runCrcRange = s.raise .cfgErr := if_pos (s.lenTooLong_iff.2 h)

theorem State.runCrcRange_rangeErr {s : State} (h : s.bufLen.toNat ≤ s.params.bufCap.toNat)
    (hw : s.bufLen.toNat < s.rangeEnd) : s.runCrcRange = s.raise .rangeErr :=
  (if_neg fun hl => absurd (s.lenTooLong_iff.1 hl) (Nat.not_lt.2 h)).trans (if_pos hw)

theorem State.runCrcRange_ok {s : State} (h : s.bufLen.toNat ≤ s.params.bufCap.toNat)
    (hw : s.rangeEnd ≤ s.bufLen.toNat) : s.runCrcRange = { s with cursor := s.start, op := .range } :=
  (if_neg fun hl => absurd (s.lenTooLong_iff.1 hl) (Nat.not_lt.2 h)).trans (if_neg (Nat.not_lt.2 hw))

theorem State.runFrameCheck_cfgErr {s : State}
    (h : s.params.bufCap.toNat < s.bufLen.toNat ∨ s.frameSize.toNat < 60) : s.runFrameCheck = s.raise .cfgErr :=
  if_pos (s.configBad_iff.2 h)

theorem State.configOk {s : State} (h : s.bufLen.toNat ≤ s.params.bufCap.toNat) (hf : 60 ≤ s.frameSize.toNat) :
    ¬ (s.lenTooLong || s.frameTooShort) = true := fun hb => by
  rcases s.configBad_iff.1 hb with h' | h' <;> omega

theorem State.runFrameCheck_rangeErr {s : State} (h : s.bufLen.toNat ≤ s.params.bufCap.toNat)
    (hf : 60 ≤ s.frameSize.toNat) (hw : s.bufLen.toNat < s.frameEnd) : s.runFrameCheck = s.raise .rangeErr :=
  (if_neg (State.configOk h hf)).trans (if_pos hw)

theorem State.runFrameCheck_ok {s : State} (h : s.bufLen.toNat ≤ s.params.bufCap.toNat)
    (hf : 60 ≤ s.frameSize.toNat) (hw : s.frameEnd ≤ s.bufLen.toNat) : s.runFrameCheck = s.recordCheck.complete :=
  (if_neg (State.configOk h hf)).trans (if_neg (Nat.not_lt.2 hw))

theorem State.runScanStart_cfgErr {s : State}
    (h : s.params.bufCap.toNat < s.bufLen.toNat ∨ s.frameSize.toNat < 60) : s.runScanStart = s.raise .cfgErr :=
  if_pos (s.configBad_iff.2 h)

theorem State.runScanStart_ok {s : State} (h : s.bufLen.toNat ≤ s.params.bufCap.toNat)
    (hf : 60 ≤ s.frameSize.toNat) :
    s.runScanStart = { s with cursor := 0, validCount := 0, badCount := 0, op := .scan } :=
  if_neg (State.configOk h hf)

theorem State.storeBufData_inside {s : State} (h : s.bufAddr.toNat < s.params.bufCap.toNat) (v : Word) :
    s.storeBufData v = { s.writeByte s.bufAddr.toNat (v.setWidth 8) with bufAddr := s.bufAddr + 1 } :=
  if_pos (s.bufAddrOk_iff.2 h)

theorem State.storeBufData_outside {s : State} (h : s.params.bufCap.toNat ≤ s.bufAddr.toNat) (v : Word) :
    s.storeBufData v = s.raise .addrErr :=
  if_neg fun hb => absurd (s.bufAddrOk_iff.1 hb) (Nat.not_lt.2 h)

theorem State.bufDataWord_inside {s : State} (h : s.bufAddr.toNat < s.params.bufCap.toNat) :
    s.bufDataWord = (s.bufByte s.bufAddr.toNat).setWidth 32 := if_pos (s.bufAddrOk_iff.2 h)

theorem State.bufDataWord_outside {s : State} (h : s.params.bufCap.toNat ≤ s.bufAddr.toNat) : s.bufDataWord = 0 :=
  if_neg fun hb => absurd (s.bufAddrOk_iff.1 hb) (Nat.not_lt.2 h)

theorem State.resOffsetWord_stored {s : State} (h : s.resIdx.toNat < s.nStored) :
    s.resOffsetWord = (s.resEntry s.resIdx.toNat).offset := if_pos h

theorem State.resOffsetWord_none {s : State} (h : s.nStored ≤ s.resIdx.toNat) : s.resOffsetWord = 0 :=
  if_neg (Nat.not_lt.2 h)

theorem State.resCounterWord_stored {s : State} (h : s.resIdx.toNat < s.nStored) :
    s.resCounterWord = (s.resEntry s.resIdx.toNat).counter := if_pos h

theorem State.resCounterWord_none {s : State} (h : s.nStored ≤ s.resIdx.toNat) : s.resCounterWord = 0 :=
  if_neg (Nat.not_lt.2 h)

/-- The checksums compared by `crcMatch`. -/
theorem State.crcMatch_iff (s : State) (a fs : Nat) : s.crcMatch a fs = true ↔ s.frameCrc a fs = s.storedCrc a fs :=
  beq_iff_eq

/-- The scan step at its end (R165). -/
theorem scanStep_end {s : State} (h : s.bufLen.toNat < s.cursor.toNat + s.frameSize.toNat) :
    scanStep s = .next s.finish := if_pos (s.scanAtEnd_iff.2 h)

/-- The scan step inside the buffer (R161). -/
theorem scanStep_inside {s : State} (h : s.bufLen.toNat ≤ s.params.bufCap.toNat) (hf : 60 ≤ s.frameSize.toNat)
    (hin : s.cursor.toNat + s.frameSize.toNat ≤ s.bufLen.toNat) :
    scanStep s =
      if !s.hdrMatch s.cursor.toNat then .next s.skipByte
      else if s.crcMatch s.cursor.toNat s.frameSize.toNat then .next s.takeFrame
      else .next s.countBad :=
  (if_neg fun he => absurd (s.scanAtEnd_iff.1 he) (Nat.not_lt.2 hin)).trans (if_neg (State.configOk h hf))

end Sys2Proof.Machine
end

