-- ==== Sys2Proof/Laws/Checksum.lean ====
section
/-! SUPPORT. The laws of the checksum functions. -/
namespace Sys2Proof.Machine
open Sys2Proof

@[simp] theorem crcUpdate_nil (seed : Word) : crcUpdate [] seed = seed := rfl

@[simp] theorem crcUpdate_cons (b : Byte) (bytes : List Byte) (seed : Word) :
    crcUpdate (b :: bytes) seed = crcUpdate bytes (crcStep seed b) := rfl

/-- The streaming law (R104). -/
theorem crcUpdate_append (xs ys : List Byte) (seed : Word) :
    crcUpdate (xs ++ ys) seed = crcUpdate ys (crcUpdate xs seed) := List.foldl_append

/-- A round is linear over exclusive-or. -/
theorem crcRound_xor (c d : Word) : crcRound (c ^^^ d) = crcRound c ^^^ crcRound d := by
  unfold crcRound
  rw [BitVec.getLsbD_xor, BitVec.ushiftRight_xor_distrib]
  cases c.getLsbD 0 <;> cases d.getLsbD 0 <;> simp
  · rw [BitVec.xor_assoc]
  · rw [BitVec.xor_assoc, BitVec.xor_assoc, BitVec.xor_comm (d >>> 1)]
  · rw [BitVec.xor_assoc, BitVec.xor_comm Config.poly, BitVec.xor_assoc, BitVec.xor_self, BitVec.xor_zero]

theorem crcRounds_xor (n : Nat) (c d : Word) : crcRounds n (c ^^^ d) = crcRounds n c ^^^ crcRounds n d := by
  induction n generalizing c d with
  | zero => rfl
  | succ n ih => simp [crcRounds, crcRound_xor, ih]

/-- A frame's checksum depends on the bytes of the frame only. -/
theorem State.frameCrc_eq {s t : State} {a fs : Nat} (h : ∀ b, a ≤ b → b < a + fs → s.bufByte b = t.bufByte b) :
    s.frameCrc a fs = t.frameCrc a fs := by
  unfold State.frameCrc
  rw [State.memBytes_eq fun b h1 h2 => h b h1 (by omega)]

end Sys2Proof.Machine
end

