-- ==== Sys2Proof/Laws/Exec.lean ====
section
/-! SUPPORT. Once and for all, what an instruction can do: `Effect s i t` lists the ways `exec i s` answers `t`
(`exec_effect`). Proofs about every instruction are case splits on it. -/
namespace Sys2Proof.Machine
open Sys2Proof

theorem State.unlessBusy_idle {s : State} (h : s.op = .idle) (f : State → State) : s.unlessBusy f = f s := by
  simp [State.unlessBusy, h]

theorem State.unlessBusy_busy {s : State} (h : s.op ≠ .idle) (f : State → State) :
    s.unlessBusy f = s.raise .busyErr := by
  simp [State.unlessBusy, h]

/-- What a command can do to the state its CMD write left with DONE cleared. -/
inductive CommandEffect (s : State) : Command → State → Prop where
  | nop : CommandEffect s .nop s.complete
  | crcInit : CommandEffect s .crcInit { s.complete with crc := Config.defaultSeed }
  | crcByte (b : Byte) : CommandEffect s (.crcByte b) { s.complete with crc := crcStep s.crc b }
  | cfgErr (c : Command) : CommandEffect s c (s.raise .cfgErr)
  | rangeErr (c : Command) : CommandEffect s c (s.raise .rangeErr)
  | crcRange (hlen : s.bufLen.toNat ≤ s.params.bufCap.toNat) (hend : s.rangeEnd ≤ s.bufLen.toNat) :
    CommandEffect s .crcRange { s with cursor := s.start, op := .range }
  | frameCheck (hlen : s.bufLen.toNat ≤ s.params.bufCap.toNat) (hfs : Config.fsMin ≤ s.frameSize.toNat)
    (hend : s.frameEnd ≤ s.bufLen.toNat) : CommandEffect s .frameCheck s.recordCheck.complete
  | scanStart (hlen : s.bufLen.toNat ≤ s.params.bufCap.toNat) (hfs : Config.fsMin ≤ s.frameSize.toNat) :
    CommandEffect s .scanStart { s with cursor := 0, validCount := 0, badCount := 0, op := .scan }

theorem State.runCommand_effect (s : State) (c : Command) : CommandEffect s c (s.runCommand c) := by
  cases c with
  | nop => exact .nop
  | crcInit => exact .crcInit
  | crcByte b => exact .crcByte b
  | crcRange =>
    simp only [State.runCommand, State.runCrcRange, State.lenTooLong, decide_eq_true_eq]
    split
    · exact .cfgErr _
    · split
      · exact .rangeErr _
      · exact .crcRange (by omega) (by omega)
  | frameCheck =>
    simp only [State.runCommand, State.runFrameCheck, State.lenTooLong, State.frameTooShort, Bool.or_eq_true,
      decide_eq_true_eq]
    split
    · exact .cfgErr _
    · split
      · exact .rangeErr _
      · exact .frameCheck (by omega) (by omega) (by omega)
  | scanStart =>
    simp only [State.runCommand, State.runScanStart, State.lenTooLong, State.frameTooShort, Bool.or_eq_true,
      decide_eq_true_eq]
    split
    · exact .cfgErr _
    · exact .scanStart (by omega) (by omega)

/-- What an instruction can do. -/
inductive Effect (s : State) : Instr → State → Prop where
  | nothing (i : Instr) : Effect s i s
  | answer (i : Instr) (v : Word) : Effect s i (s.answer v)
  | statusClear (v : Word) : Effect s (.wrStatus v) { s with status := s.status.clear v }
  | dropped (i : Instr) (busy : s.op ≠ .idle) : Effect s i (s.raise .busyErr)
  | crc (v : Word) (idle : s.op = .idle) : Effect s (.wrCrc v) { s with crc := v }
  | bufLen (v : Word) (idle : s.op = .idle) : Effect s (.wrBufLen v) { s with bufLen := v }
  | frameSize (v : Word) (idle : s.op = .idle) : Effect s (.wrFrameSize v) { s with frameSize := v }
  | start (v : Word) (idle : s.op = .idle) : Effect s (.wrStart v) { s with start := v }
  | count (v : Word) (idle : s.op = .idle) : Effect s (.wrCount v) { s with count := v }
  | bufAddr (v : Word) (idle : s.op = .idle) : Effect s (.wrBufAddr v) { s with bufAddr := v }
  | tblIdx (v : Word) (idle : s.op = .idle) : Effect s (.wrTblIdx v) { s with tblIdx := v.setWidth 8 }
  | resIdx (v : Word) (idle : s.op = .idle) : Effect s (.wrResIdx v) { s with resIdx := v }
  | bufData (v : Word) (idle : s.op = .idle) (inside : s.bufAddr.toNat < s.params.bufCap.toNat) :
    Effect s (.wrBufData v) { s.writeByte s.bufAddr.toNat (v.setWidth 8) with bufAddr := s.bufAddr + 1 }
  | addrErr (v : Word) (idle : s.op = .idle) (outside : s.params.bufCap.toNat ≤ s.bufAddr.toNat) :
    Effect s (.wrBufData v) (s.raise .addrErr)
  | cmdErr (v : Word) (idle : s.op = .idle) : Effect s (.wrCmd v) (s.beginCommand.raise .cmdErr)
  | command (i : Instr) (c : Command) (t : State) (idle : s.op = .idle)
    (names : i = commandInstr c ∨ ∃ v, i = .wrCmd v ∧ decodeCommand v = .ok c) (run : CommandEffect s.beginCommand c t) :
    Effect s i t

theorem State.unlessBusy_effect {i : Instr} {s : State} {f : State → State} (h : s.op = .idle → Effect s i (f s)) :
    Effect s i (s.unlessBusy f) := by
  by_cases hi : s.op = .idle
  · rw [State.unlessBusy_idle hi]; exact h hi
  · rw [State.unlessBusy_busy hi]; exact .dropped i hi

theorem State.issue_effect (c : Command) (s : State) : Effect s (commandInstr c) (s.issue fun s => s.runCommand c) :=
  State.unlessBusy_effect fun hi => .command _ c _ hi (.inl rfl) (State.runCommand_effect _ _)

/-- An aligned access is the read or the write of its register offset (R86). -/
theorem decodeBus_aligned {d : Descriptor} (h : descAl d = 0) (v : Word) :
    decodeBus d v = if descWrite d then decodeWrite (descWord d) v else decodeRead (descWord d) := by
  simp [decodeBus, h]

/-- A command row is the CMD write of its own word: the checks of R201, then the command. -/
theorem exec_commandInstr (c : Command) (s : State) :
    exec (commandInstr c) s = .next (s.issue fun s => s.runCommand c) := by
  cases c <;> rfl

/-- A CMD write of a word that decodes to `c` does what the row of `c` does. -/
theorem exec_wrCmd_of_decode {v : Word} {c : Command} (h : decodeCommand v = .ok c) (s : State) :
    exec (.wrCmd v) s = exec (commandInstr c) s := by
  rw [exec_commandInstr]
  simp [exec, execWrCmd, State.issueWord, State.issue, h]

/-- What any instruction can do: if `exec` answers a next state, it is one of these. -/
theorem exec_effect {i : Instr} {s t : State} (h : exec i s = .next t) : Effect s i t := by
  cases i <;> first
    | (exfalso; cases h; done)
    | (cases h; exact .answer _ _)
    | (cases h; exact .nothing _)
    | (cases h; exact .statusClear _)
    | (cases h; exact State.issue_effect .nop s)
    | (cases h; exact State.issue_effect .crcInit s)
    | (cases h; exact State.issue_effect (.crcByte _) s)
    | (cases h; exact State.issue_effect .crcRange s)
    | (cases h; exact State.issue_effect .frameCheck s)
    | (cases h; exact State.issue_effect .scanStart s)
    | (cases h; exact State.unlessBusy_effect fun hi => .crc _ hi)
    | (cases h; exact State.unlessBusy_effect fun hi => .bufLen _ hi)
    | (cases h; exact State.unlessBusy_effect fun hi => .frameSize _ hi)
    | (cases h; exact State.unlessBusy_effect fun hi => .start _ hi)
    | (cases h; exact State.unlessBusy_effect fun hi => .count _ hi)
    | (cases h; exact State.unlessBusy_effect fun hi => .bufAddr _ hi)
    | (cases h; exact State.unlessBusy_effect fun hi => .tblIdx _ hi)
    | (cases h; exact State.unlessBusy_effect fun hi => .resIdx _ hi)
    | skip
  case wrCmd v =>
    cases h
    refine State.unlessBusy_effect fun hi => ?_
    split
    · exact .command _ _ _ hi (.inr ⟨v, rfl, ‹_›⟩) (State.runCommand_effect _ _)
    · exact .cmdErr v hi
  case wrBufData v =>
    cases h
    refine State.unlessBusy_effect fun hi => ?_
    simp only [State.storeBufData, State.bufAddrOk, decide_eq_true_eq]
    split
    · exact .bufData v hi ‹_›
    · exact .addrErr v hi (by omega)

end Sys2Proof.Machine
end

