-- ==== Sys2Proof/Laws/Engine.lean ====
section
/-! SUPPORT. Once and for all, what an engine step can do (`engineStep_effect`), and when it answers. -/
namespace Sys2Proof.Machine
open Sys2Proof

/-- What an engine step can do. -/
inductive EngineEffect (s : State) : State → Prop where
  | idle (hop : s.op = .idle) : EngineEffect s s
  | rangeEnd (hop : s.op = .range) (hend : s.cursor.toNat = s.rangeEnd) : EngineEffect s s.finish
  | rangeByte (hop : s.op = .range) (hend : s.cursor.toNat ≠ s.rangeEnd)
    (hcap : s.cursor.toNat < s.params.bufCap.toNat) :
    EngineEffect s { s with crc := crcStep s.crc (s.bufByte s.cursor.toNat), cursor := s.cursor + 1 }
  | scanEnd (hop : s.op = .scan) (hend : s.bufLen.toNat < s.cursor.toNat + s.frameSize.toNat) :
    EngineEffect s s.finish
  | skipByte (hop : s.op = .scan) (hin : s.cursor.toNat + s.frameSize.toNat ≤ s.bufLen.toNat)
    (hlen : s.bufLen.toNat ≤ s.params.bufCap.toNat) (hfs : Config.fsMin ≤ s.frameSize.toNat)
    (hhdr : s.hdrMatch s.cursor.toNat = false) : EngineEffect s s.skipByte
  | countBad (hop : s.op = .scan) (hin : s.cursor.toNat + s.frameSize.toNat ≤ s.bufLen.toNat)
    (hlen : s.bufLen.toNat ≤ s.params.bufCap.toNat) (hfs : Config.fsMin ≤ s.frameSize.toNat)
    (hhdr : s.hdrMatch s.cursor.toNat = true) (hcrc : s.crcMatch s.cursor.toNat s.frameSize.toNat = false) :
    EngineEffect s s.countBad
  | takeFrame (hop : s.op = .scan) (hin : s.cursor.toNat + s.frameSize.toNat ≤ s.bufLen.toNat)
    (hlen : s.bufLen.toNat ≤ s.params.bufCap.toNat) (hfs : Config.fsMin ≤ s.frameSize.toNat)
    (hhdr : s.hdrMatch s.cursor.toNat = true) (hcrc : s.crcMatch s.cursor.toNat s.frameSize.toNat = true) :
    EngineEffect s s.takeFrame

theorem engineStep_effect {s t : State} (h : engineStep s = .next t) : EngineEffect s t := by
  unfold engineStep at h
  split at h
  · cases h; exact .idle ‹_›
  · unfold rangeStep at h
    split at h
    · cases h; exact .rangeEnd ‹_› ‹_›
    · split at h
      · cases h; exact .rangeByte ‹_› ‹_› ‹_›
      · cases h
  · unfold scanStep at h
    split at h
    · rename_i hop hend
      cases h
      exact .scanEnd hop (by simpa [State.scanAtEnd] using hend)
    · split at h
      · cases h
      · rename_i hop hend hdom
        simp only [State.scanAtEnd, decide_eq_true_eq] at hend
        simp only [State.lenTooLong, State.frameTooShort, Bool.or_eq_true, decide_eq_true_eq] at hdom
        split at h
        · rename_i hhdr
          cases h
          exact .skipByte hop (by omega) (by omega) (by omega) (by simpa using hhdr)
        · rename_i hhdr
          split at h
          · cases h
            exact .takeFrame hop (by omega) (by omega) (by omega) (by simpa using hhdr) ‹_›
          · rename_i hcrc
            cases h
            exact .countBad hop (by omega) (by omega) (by omega) (by simpa using hhdr) (by simpa using hcrc)

/-- What `record` leaves of each field it does not write. -/
theorem State.record_frame (s : State) (i cnt : Word) :
    (s.record i cnt).params = s.params ∧ (s.record i cnt).op = s.op ∧ (s.record i cnt).crc = s.crc ∧
    (s.record i cnt).bufLen = s.bufLen ∧ (s.record i cnt).frameSize = s.frameSize ∧ (s.record i cnt).start = s.start ∧
    (s.record i cnt).count = s.count ∧ (s.record i cnt).bufAddr = s.bufAddr ∧ (s.record i cnt).tblIdx = s.tblIdx ∧
    (s.record i cnt).cursor = s.cursor ∧ (s.record i cnt).badCount = s.badCount ∧ (s.record i cnt).resIdx = s.resIdx ∧
    (s.record i cnt).chkResult = s.chkResult ∧ (s.record i cnt).chkComputed = s.chkComputed ∧
    (s.record i cnt).chkStored = s.chkStored ∧ (s.record i cnt).chkCounter = s.chkCounter ∧
    (s.record i cnt).buf = s.buf ∧ (s.record i cnt).epoch = s.epoch ∧ (s.record i cnt).pending = s.pending ∧
    (s.record i cnt).schedule = s.schedule ∧ (s.record i cnt).hostRead = s.hostRead ∧
    (s.record i cnt).validCount = s.validCount + 1 ∧ (s.record i cnt).status.done = s.status.done := by
  unfold State.record
  split <;> simp

/-- `record` with room in `res` (R166). -/
theorem State.record_room {s : State} (h : s.validCount.toNat < s.params.resDepth.toNat) (i cnt : Word) :
    s.record i cnt =
      { s with res := Memory.write s.res s.validCount.toNat ⟨i, cnt⟩, validCount := s.validCount + 1 } := by
  simp [State.record, h]

/-- `record` without room (R166, R228). -/
theorem State.record_full {s : State} (h : ¬ s.validCount.toNat < s.params.resDepth.toNat) (i cnt : Word) :
    s.record i cnt = { s.raise .resOvf with validCount := s.validCount + 1 } := by
  simp [State.record, h]

/-- Recording a result keeps `res` canonical. -/
theorem State.record_wf {s : State} (i cnt : Word) (h : Memory.wf s.res) : Memory.wf (s.record i cnt).res := by
  unfold State.record
  split
  · exact Memory.wf_write _ _ h
  · exact h

end Sys2Proof.Machine
end

