-- ==== Sys2Proof/Laws/Step.lean ====
section
/-! SUPPORT. Whose turn it is, and once and for all what a step can do (`step_effect`). -/
namespace Sys2Proof.Machine
open Sys2Proof

/-- Taking a turn changes the model's inputs only. -/
structure SameMachine (s t : State) : Prop where
  eq : t = { s with pending := t.pending, schedule := t.schedule }

theorem SameMachine.refl (s : State) : SameMachine s s := ⟨rfl⟩

theorem State.turn_idle_nil {s : State} (h : s.op = .idle) (hp : s.pending = []) : s.turn = .nobody := by
  simp [State.turn, h, hp]

theorem State.turn_idle_cons {s : State} {e : HostEvent} {rest : List HostEvent} (h : s.op = .idle)
    (hp : s.pending = e :: rest) : s.turn = .host e { s with pending := rest } := by
  simp [State.turn, h, hp]

theorem State.turn_busy_nil {s : State} (h : s.op ≠ .idle) (hp : s.pending = []) : s.turn = .engine s := by
  unfold State.turn
  split <;> simp_all

theorem State.turn_busy_host {s : State} {e : HostEvent} {rest : List HostEvent} {later : List Agent}
    (h : s.op ≠ .idle) (hp : s.pending = e :: rest) (hs : s.schedule = .host :: later) :
    s.turn = .host e { s with pending := rest, schedule := later } := by
  unfold State.turn
  split <;> simp_all

theorem State.turn_busy_engine {s : State} {e : HostEvent} {rest : List HostEvent} {later : List Agent}
    (h : s.op ≠ .idle) (hp : s.pending = e :: rest) (hs : s.schedule = .engine :: later) :
    s.turn = .engine { s with schedule := later } := by
  unfold State.turn
  split <;> simp_all

theorem State.turn_busy_unscheduled {s : State} (h : s.op ≠ .idle) (hs : s.schedule = []) : s.turn = .engine s := by
  unfold State.turn
  split <;> simp_all

/-- Where the engine moves it is busy, and the move starts from the same machine. -/
theorem State.turn_engine {s s' : State} (h : s.turn = .engine s') : s.op ≠ .idle ∧ SameMachine s s' := by
  unfold State.turn at h
  split at h <;> cases h <;> exact ⟨by assumption, ⟨rfl⟩⟩

/-- The host's move starts from the same machine. -/
theorem State.turn_host {s s' : State} {e : HostEvent} (h : s.turn = .host e s') : SameMachine s s' := by
  unfold State.turn at h
  split at h <;> cases h <;> exact ⟨rfl⟩

/-- Nobody can move only while op is IDLE. -/
theorem State.turn_nobody {s : State} (h : s.turn = .nobody) : s.op = .idle := by
  unfold State.turn at h
  split at h <;> first | assumption | cases h

/-- The access a descriptor stands for is fetched as what the descriptor decodes to. -/
theorem fetchEvent_descriptorAccess (p : Params) (d : Descriptor) (v : Word) :
    fetchEvent p (.access (descriptorAccess p d v)) = .instr (decodeBus d v) := by
  have hd : ∀ d : Descriptor, BitVec.ofBool (descWrite d) ++ BitVec.ofNat 8 (d.extractLsb' 0 8).toNat = d := by
    decide +kernel
  have hi : inRegisterSpace p (descriptorAccess p d v).address = true := by
    have := (d.extractLsb' 0 8).isLt
    simp [inRegisterSpace, descriptorAccess]
    omega
  have ha : accessDescriptor p (descriptorAccess p d v) = d := by
    simp only [accessDescriptor, descriptorAccess, Nat.add_sub_cancel_left]
    exact hd d
  simp only [fetchEvent, ha, hi]
  simp [descriptorAccess]

/-- An event put before all others is what the next step takes, from the same state. -/
theorem State.turn_issueNext (s : State) (e : HostEvent) : (s.issueNext e).turn = .host e s := by
  unfold State.issueNext
  split
  · rename_i h
    exact State.turn_idle_cons (s := { s with pending := e :: s.pending }) h rfl
  · rename_i h
    exact State.turn_busy_host (s := { s with pending := e :: s.pending, schedule := .host :: s.schedule }) h rfl rfl

/-- Where it is the host's turn with an access, the step is the instruction it is fetched as. -/
theorem step_of_instr {s s' : State} {e : HostEvent} {i : Instr} (ht : s.turn = .host e s')
    (hf : fetchEvent s'.params e = .instr i) : step s = exec i s' := by
  simp only [step, ht, hf]

/-- What a step can do. -/
inductive StepEffect (s : State) : State → Prop where
  | nobody (hop : s.op = .idle) : StepEffect s s
  | engine (s' t : State) (busy : s.op ≠ .idle) (same : SameMachine s s') (run : EngineEffect s' t) : StepEffect s t
  | reset (s' : State) (turn : s.turn = .host .reset s') (same : SameMachine s s') : StepEffect s s'.applyReset
  | instr (s' t : State) (i : Instr) (next : s.instrIsNext i) (same : SameMachine s s') (run : Effect s' i t) :
    StepEffect s t

theorem step_effect {s t : State} (h : step s = .next t) : StepEffect s t := by
  unfold step at h
  split at h
  · rename_i hturn
    cases h
    exact .nobody (State.turn_nobody hturn)
  · rename_i s' hturn
    exact .engine s' t (State.turn_engine hturn).1 (State.turn_engine hturn).2 (engineStep_effect h)
  · rename_i e s' hturn
    split at h
    · rename_i hf
      cases h
      have he : e = .reset := by
        cases e with
        | reset => rfl
        | access a =>
          simp only [fetchEvent] at hf
          split at hf
          · cases hf
          · split at hf <;> cases hf
      subst he
      exact .reset s' hturn (State.turn_host hturn)
    · exact .instr s' t _ ⟨e, s', hturn, ‹_›⟩ (State.turn_host hturn) (exec_effect h)
    · cases h

/-- A run's first step, taken. -/
theorem run_succ_of_step {s t : State} (h : step s = .next t) (n : Nat) :
    Host.Core.run Sys2Proof.core (n + 1) s = Host.Core.run Sys2Proof.core n t := by
  have h' : Sys2Proof.core.step s = .next t := h
  simp only [Host.Core.run, h']

end Sys2Proof.Machine
end

