-- ==== Sys2Proof/Laws/Frame.lean ====
section
/-! SUPPORT. The frames of the shared operations, and how frames compose. -/
namespace Sys2Proof.Machine
open Sys2Proof

theorem UnchangedExcept.refl (s : State) (l : List Elem) : UnchangedExcept l s s := fun e _ => by
  cases e <;> first | rfl | exact fun _ => rfl

theorem UnchangedExcept.mono {s t : State} {l l' : List Elem} (h : UnchangedExcept l s t) (hl : ∀ e ∈ l, e ∈ l') :
    UnchangedExcept l' s t := fun e he => h e fun hm => he (hl e hm)

theorem Elem.Same.trans {s t u : State} {e : Elem} (h₁ : e.Same s t) (h₂ : e.Same t u) : e.Same s u := by
  cases e <;> first
    | exact Eq.trans (h₂ : _ = _) h₁
    | exact fun a => (h₂ a).trans (h₁ a)

theorem UnchangedExcept.trans {s t u : State} {l l' : List Elem} (h₁ : UnchangedExcept l s t)
    (h₂ : UnchangedExcept l' t u) : UnchangedExcept (l ++ l') s u := fun e he =>
  Elem.Same.trans (h₁ e fun h => he (List.mem_append_left _ h)) (h₂ e fun h => he (List.mem_append_right _ h))

theorem State.raise_frame (s : State) (e : ErrorCode) : UnchangedExcept [.error e] s (s.raise e) := by
  intro e' he
  cases e' with
  | error e'' =>
    have : e'' ≠ e := fun h => he (by simp [h])
    exact Status.raise_error_of_ne _ this
  | done => exact Status.raise_done _ _
  | buf => exact fun _ => rfl
  | res => exact fun _ => rfl
  | _ => rfl

/-- Only DONE differs between a status with DONE written and the status before. -/
theorem State.withDone_frame (s : State) (b : Bool) :
    UnchangedExcept [.done] s { s with status := { s.status with done := b } } := by
  intro e he
  cases e with
  | error e' => exact Status.withDone_error _ _ _
  | done => exact absurd (List.mem_singleton.2 rfl) he
  | buf => exact fun _ => rfl
  | res => exact fun _ => rfl
  | _ => rfl

theorem State.complete_frame (s : State) : UnchangedExcept [.done] s s.complete := State.withDone_frame s true

theorem State.beginCommand_frame (s : State) : UnchangedExcept [.done] s s.beginCommand := State.withDone_frame s false

theorem State.answer_frame (s : State) (v : Word) : UnchangedExcept [.hostRead] s (s.answer v) := by
  intro e he
  cases e with
  | hostRead => exact absurd (List.mem_singleton.2 rfl) he
  | buf => exact fun _ => rfl
  | res => exact fun _ => rfl
  | _ => rfl

/-- A read that answers `v` reads as `v`. -/
theorem readsAs_answer (s : State) (v : Word) : ReadsAs s (.next (s.answer v)) v :=
  ⟨_, rfl, rfl, State.answer_frame s v⟩

/-- An ignored write. -/
theorem ignoredBy_next (s : State) : IgnoredBy s (.next s) := ⟨s, rfl, UnchangedExcept.refl s _⟩

/-- The lock while busy. -/
theorem droppedAsBusy_unlessBusy {s : State} (h : s.op ≠ .idle) (f : State → State) :
    DroppedAsBusy s (.next (s.unlessBusy f)) := by
  rw [State.unlessBusy_busy h]
  exact ⟨_, rfl, by simp, State.raise_frame s _⟩

/-- A command refused with the error `e` after DONE was cleared. -/
theorem refusedWith_raise (s : State) (e : ErrorCode) : RefusedWith e s (.next (s.beginCommand.raise e)) :=
  ⟨_, rfl, by simp, by simp,
    (State.beginCommand_frame s).trans (State.raise_frame _ e)⟩

end Sys2Proof.Machine
end

