-- ==== Sys2Proof/Laws/PerInstr.lean ====
section
/-! SUPPORT. Per instruction: a well-formed instruction decodes from its own words. One lemma per constructor. -/
namespace Sys2Proof.Laws.RoundTrip
open Sys2Proof

/-- The instruction, if it is well-formed, is what its words decode to. -/
def Statement (i : Instr) : Prop := i.wellFormed = true → decode (encode i) = .ok i

/-- A descriptor's fields are those it was made from (R86). -/
theorem fields_descriptor : ∀ (w : Bool) (word : BitVec 6) (al : BitVec 2),
    descAl (descriptor w word al) = al ∧ descWrite (descriptor w word al) = w ∧
      descWord (descriptor w word al) = word := by
  decide +kernel

/-- Every CRC_BYTE word decodes to its byte (R82). -/
theorem decodeCommand_crcByte : ∀ b : Byte, decodeCommand (encodeCommand (.crcByte b)) = .ok (.crcByte b) := by
  decide +kernel

theorem decode_encodeRd (word : BitVec 6) : decode (encodeRd word) = .ok (decodeRead word) := by
  simp only [encodeRd, decode, decodeBus, fields_descriptor]
  rfl

theorem decode_encodeWr (word : BitVec 6) (v : Word) : decode (encodeWr word v) = .ok (decodeWrite word v) := by
  simp only [encodeWr, decode, decodeBus, fields_descriptor]
  rfl

theorem decodeRead_60to7C : ∀ word : BitVec 6, wordIn60to7C word = true → decodeRead word = .rdReserved60to7C word := by
  decide +kernel

theorem decodeRead_80toFC : ∀ word : BitVec 6, wordIn80toFC word = true → decodeRead word = .rdReserved80toFC word := by
  decide +kernel

theorem decodeWrite_60to7C (word : BitVec 6) (v : Word) (h : wordIn60to7C word = true) :
    decodeWrite word v = .wrReserved60to7C word v := by
  simp only [wordIn60to7C, Bool.and_eq_true, decide_eq_true_eq] at h
  obtain ⟨n, hn⟩ : ∃ n, word.toNat = n + 24 := ⟨word.toNat - 24, by omega⟩
  simp only [decodeWrite, hn]
  exact if_pos (by omega)

theorem decodeWrite_80toFC (word : BitVec 6) (v : Word) (h : wordIn80toFC word = true) :
    decodeWrite word v = .wrReserved80toFC word v := by
  simp only [wordIn80toFC, decide_eq_true_eq] at h
  obtain ⟨n, hn⟩ : ∃ n, word.toNat = n + 24 := ⟨word.toNat - 24, by omega⟩
  simp only [decodeWrite, hn]
  exact if_neg (by omega)

/-- The data a descriptor carries is the data it was made with, if that fits. -/
theorem busData_descriptor (write : Bool) (word : BitVec 6) (al : BitVec 2) {v : Word} (h : dataFits write v = true) :
    busData (descriptor write word al) v = v := by
  cases write <;> simp_all [busData, dataFits, fields_descriptor]

theorem nop : Statement .nop := fun _ => rfl
theorem crcInit : Statement .crcInit := fun _ => rfl
theorem crcByte (b : Byte) : Statement (.crcByte b) := fun _ => by
  simp [encode, decode, decodeCommand_crcByte, Except.map, commandInstr]
theorem crcRange : Statement .crcRange := fun _ => rfl
theorem frameCheck : Statement .frameCheck := fun _ => rfl
theorem scanStart : Statement .scanStart := fun _ => rfl
theorem rdCmd : Statement .rdCmd := fun _ => rfl
theorem wrCmd (v : Word) : Statement (.wrCmd v) := fun _ => rfl
theorem rdStatus : Statement .rdStatus := fun _ => rfl
theorem wrStatus (v : Word) : Statement (.wrStatus v) := fun _ => rfl
theorem rdCrc : Statement .rdCrc := fun _ => rfl
theorem wrCrc (v : Word) : Statement (.wrCrc v) := fun _ => rfl
theorem rdBufLen : Statement .rdBufLen := fun _ => rfl
theorem wrBufLen (v : Word) : Statement (.wrBufLen v) := fun _ => rfl
theorem rdFrameSize : Statement .rdFrameSize := fun _ => rfl
theorem wrFrameSize (v : Word) : Statement (.wrFrameSize v) := fun _ => rfl
theorem rdStart : Statement .rdStart := fun _ => rfl
theorem wrStart (v : Word) : Statement (.wrStart v) := fun _ => rfl
theorem rdCount : Statement .rdCount := fun _ => rfl
theorem wrCount (v : Word) : Statement (.wrCount v) := fun _ => rfl
theorem rdBufAddr : Statement .rdBufAddr := fun _ => rfl
theorem wrBufAddr (v : Word) : Statement (.wrBufAddr v) := fun _ => rfl
theorem rdBufData : Statement .rdBufData := fun _ => rfl
theorem wrBufData (v : Word) : Statement (.wrBufData v) := fun _ => rfl
theorem rdTblIdx : Statement .rdTblIdx := fun _ => rfl
theorem wrTblIdx (v : Word) : Statement (.wrTblIdx v) := fun _ => rfl
theorem rdTblData : Statement .rdTblData := fun _ => rfl
theorem wrTblDataIgnored (v : Word) : Statement (.wrTblDataIgnored v) := fun _ => rfl
theorem rdCursor : Statement .rdCursor := fun _ => rfl
theorem wrCursorIgnored (v : Word) : Statement (.wrCursorIgnored v) := fun _ => rfl
theorem rdValidCount : Statement .rdValidCount := fun _ => rfl
theorem wrValidCountIgnored (v : Word) : Statement (.wrValidCountIgnored v) := fun _ => rfl
theorem rdBadCount : Statement .rdBadCount := fun _ => rfl
theorem wrBadCountIgnored (v : Word) : Statement (.wrBadCountIgnored v) := fun _ => rfl
theorem rdResIdx : Statement .rdResIdx := fun _ => rfl
theorem wrResIdx (v : Word) : Statement (.wrResIdx v) := fun _ => rfl
theorem rdResOffset : Statement .rdResOffset := fun _ => rfl
theorem wrResOffsetIgnored (v : Word) : Statement (.wrResOffsetIgnored v) := fun _ => rfl
theorem rdResCounter : Statement .rdResCounter := fun _ => rfl
theorem wrResCounterIgnored (v : Word) : Statement (.wrResCounterIgnored v) := fun _ => rfl
theorem rdChkResult : Statement .rdChkResult := fun _ => rfl
theorem wrChkResultIgnored (v : Word) : Statement (.wrChkResultIgnored v) := fun _ => rfl
theorem rdChkComputed : Statement .rdChkComputed := fun _ => rfl
theorem wrChkComputedIgnored (v : Word) : Statement (.wrChkComputedIgnored v) := fun _ => rfl
theorem rdChkStored : Statement .rdChkStored := fun _ => rfl
theorem wrChkStoredIgnored (v : Word) : Statement (.wrChkStoredIgnored v) := fun _ => rfl
theorem rdChkCounter : Statement .rdChkCounter := fun _ => rfl
theorem wrChkCounterIgnored (v : Word) : Statement (.wrChkCounterIgnored v) := fun _ => rfl
theorem rdBufCapReg : Statement .rdBufCapReg := fun _ => rfl
theorem wrBufCapRegIgnored (v : Word) : Statement (.wrBufCapRegIgnored v) := fun _ => rfl
theorem rdResDepthReg : Statement .rdResDepthReg := fun _ => rfl
theorem wrResDepthRegIgnored (v : Word) : Statement (.wrResDepthRegIgnored v) := fun _ => rfl
theorem rdReserved5C : Statement .rdReserved5C := fun _ => rfl
theorem rdReserved60to7C (word : BitVec 6) : Statement (.rdReserved60to7C word) := fun h =>
  (decode_encodeRd word).trans (congrArg _ (decodeRead_60to7C word h))
theorem rdReserved80toFC (word : BitVec 6) : Statement (.rdReserved80toFC word) := fun h =>
  (decode_encodeRd word).trans (congrArg _ (decodeRead_80toFC word h))
theorem wrReserved5C (v : Word) : Statement (.wrReserved5C v) := fun _ => rfl
theorem wrReserved60to7C (word : BitVec 6) (v : Word) : Statement (.wrReserved60to7C word v) := fun h =>
  (decode_encodeWr word v).trans (congrArg _ (decodeWrite_60to7C word v h))
theorem wrReserved80toFC (word : BitVec 6) (v : Word) : Statement (.wrReserved80toFC word v) := fun h =>
  (decode_encodeWr word v).trans (congrArg _ (decodeWrite_80toFC word v h))
theorem misaligned01 (write : Bool) (word : BitVec 6) (v : Word) : Statement (.misaligned01 write word v) := fun h => by
  simp [encode, decode, decodeBus, fields_descriptor, busData_descriptor write word _ h]
theorem misaligned10 (write : Bool) (word : BitVec 6) (v : Word) : Statement (.misaligned10 write word v) := fun h => by
  simp [encode, decode, decodeBus, fields_descriptor, busData_descriptor write word _ h]
theorem misaligned11 (write : Bool) (word : BitVec 6) (v : Word) : Statement (.misaligned11 write word v) := fun h => by
  simp [encode, decode, decodeBus, fields_descriptor, busData_descriptor write word _ h]

end Sys2Proof.Laws.RoundTrip
end

