-- ==== Sys2Proof/Tests/Slice0.lean ====
section
/-! SUPPORT. The model's own tests: the well-formedness checks, words written out from the spec's encodings, one-step
vectors of spec/95_test_vectors.md, and for each statement with hypotheses a state that meets them. -/
namespace Sys2Proof.Tests

-- One theorem after another: many kernel evaluations at once would each hold a thread.
set_option Elab.async false
open Sys2Proof Sys2Proof.Machine

/-! ### Well-formedness: each check refuses an ill-formed term -/

theorem test_wf_rd60to7C : [0x17, 0x18, 0x1F, 0x20].map (fun w => (Instr.rdReserved60to7C w).wellFormed) =
    [false, true, true, false] := by decide
theorem test_wf_wr60to7C : [0x17, 0x18, 0x1F, 0x20].map (fun w => (Instr.wrReserved60to7C w 5).wellFormed) =
    [false, true, true, false] := by decide
theorem test_wf_rd80toFC : [0x1F, 0x20, 0x3F].map (fun w => (Instr.rdReserved80toFC w).wellFormed) =
    [false, true, true] := by decide
theorem test_wf_wr80toFC : [0x1F, 0x20, 0x3F].map (fun w => (Instr.wrReserved80toFC w 5).wellFormed) =
    [false, true, true] := by decide
theorem test_wf_misaligned01 : (Instr.misaligned01 false 0 1).wellFormed = false ∧
    (Instr.misaligned01 false 0 0).wellFormed = true ∧ (Instr.misaligned01 true 0 1).wellFormed = true := by decide
theorem test_wf_misaligned10 : (Instr.misaligned10 false 0 1).wellFormed = false ∧
    (Instr.misaligned10 false 0 0).wellFormed = true ∧ (Instr.misaligned10 true 0 1).wellFormed = true := by decide
theorem test_wf_misaligned11 : (Instr.misaligned11 false 0 1).wellFormed = false ∧
    (Instr.misaligned11 false 0 0).wellFormed = true ∧ (Instr.misaligned11 true 0 1).wellFormed = true := by decide

/-! ### Decoding: words written out from R82, R86 and the register map of R20 -/

/-- The command words of R82. -/
theorem test_decode_commands :
    [0x00000000, 0x01000000, 0x02000000, 0x020000FF, 0x03000000, 0x04000000, 0x05000000].map (decodeTableWord 32) =
      [some .nop, some .crcInit, some (.crcByte 0), some (.crcByte 0xFF), some .crcRange, some .frameCheck,
        some .scanStart] := by decide

/-- H-6 to H-8, and each reason of R84. -/
theorem test_decode_illegal :
    [0x06000000, 0xFF000000, 0x02000100, 0x00800000, 0x01000001, 0x05000080].map (decodeTable 32) =
      [.error .unassignedOpcode, .error .unassignedOpcode, .error .reservedBitsSet, .error .reservedBitsSet,
        .error .operandNotAllowed, .error .operandNotAllowed] := by decide

/-- A word of no format is refused by name. -/
theorem test_decode_no_format : decodeTable 24 0 = .error .noSuchFormat ∧ decodeTable 16 0x200 = .error .noSuchFormat := by
  decide

/-- Reads of offsets 0x00 to 0x2C. -/
theorem test_decode_reads_low :
    [0x000, 0x004, 0x008, 0x00C, 0x010, 0x014, 0x018, 0x01C, 0x020, 0x024, 0x028, 0x02C].map (decodeTableWord 16) =
      [some .rdCmd, some .rdStatus, some .rdCrc, some .rdBufLen, some .rdFrameSize, some .rdStart, some .rdCount,
        some .rdBufAddr, some .rdBufData, some .rdTblIdx, some .rdTblData, some .rdCursor] := by decide

/-- Reads of offsets 0x30 to 0xFC. -/
theorem test_decode_reads_high :
    [0x030, 0x034, 0x038, 0x03C, 0x040, 0x044, 0x048, 0x04C, 0x050, 0x054, 0x058, 0x05C, 0x060, 0x07C, 0x080, 0x0FC].map
      (decodeTableWord 16) =
      [some .rdValidCount, some .rdBadCount, some .rdResIdx, some .rdResOffset, some .rdResCounter, some .rdChkResult,
        some .rdChkComputed, some .rdChkStored, some .rdChkCounter, some .rdBufCapReg, some .rdResDepthReg,
        some .rdReserved5C, some (.rdReserved60to7C 0x18), some (.rdReserved60to7C 0x1F),
        some (.rdReserved80toFC 0x20), some (.rdReserved80toFC 0x3F)] := by decide

/-- Writes of 0x89ABCDEF at offsets 0x00 to 0x2C: the data value stands above the descriptor's 16 bits. -/
theorem test_decode_writes_low :
    [0x100, 0x104, 0x108, 0x10C, 0x110, 0x114, 0x118, 0x11C, 0x120, 0x124, 0x128, 0x12C].map
      (fun d => decodeTableWord 48 (0x89ABCDEF0000 + d)) =
      [Instr.wrCmd, .wrStatus, .wrCrc, .wrBufLen, .wrFrameSize, .wrStart, .wrCount, .wrBufAddr, .wrBufData, .wrTblIdx,
        .wrTblDataIgnored, .wrCursorIgnored].map (fun c => some (c 0x89ABCDEF)) := by decide

/-- Writes at offsets 0x30 to 0xFC. -/
theorem test_decode_writes_high :
    [0x130, 0x134, 0x138, 0x13C, 0x140, 0x144, 0x148, 0x14C, 0x150, 0x154, 0x158, 0x15C, 0x160, 0x17C, 0x180, 0x1FC].map
      (fun d => decodeTableWord 48 (0x89ABCDEF0000 + d)) =
      [Instr.wrValidCountIgnored, .wrBadCountIgnored, .wrResIdx, .wrResOffsetIgnored, .wrResCounterIgnored,
        .wrChkResultIgnored, .wrChkComputedIgnored, .wrChkStoredIgnored, .wrChkCounterIgnored, .wrBufCapRegIgnored,
        .wrResDepthRegIgnored, .wrReserved5C, .wrReserved60to7C 0x18, .wrReserved60to7C 0x1F, .wrReserved80toFC 0x20,
        .wrReserved80toFC 0x3F].map (fun c => some (c 0x89ABCDEF)) := by decide

/-- al = 01, 10, 11: of a read and of a write (R64, R86). -/
theorem test_decode_misaligned :
    [0x009, 0x102, 0x0FF].map (decodeTableWord 16) =
      [some (.misaligned01 false 2 0), some (.misaligned10 true 0 0), some (.misaligned11 false 0x3F 0)] ∧
    decodeTableWord 48 0x000000050103 = some (.misaligned11 true 0 5) := by decide

/-! ### States the tests start from -/

/-- The state the instruction leaves, if it answers one. -/
def after (i : Instr) (s : State) : Option State := nextState? (exec i s)

/-- `buf` holding `bytes` from address 0 on. -/
def bufOf (bytes : List Byte) : Memory Byte := bytes.zipIdx.map fun c => (c.2, c.1)

/-- The frame F0 of 95_test_vectors section 4. -/
def f0 : List Byte :=
  [0xA5, 0x5A, 0x01, 0x3C] ++ (List.range' 4 52).map (BitVec.ofNat 8) ++ [0x78, 0x56, 0x34, 0x12] ++
    (List.range' 60 4).map (BitVec.ofNat 8) ++ [0x8A, 0xC2, 0x37, 0x9D]

/-- The state after reset with `bytes` in `buf` and BUF_LEN their number. -/
def loaded (bytes : List Byte) : State :=
  { State.reset with buf := bufOf bytes, bufLen := BitVec.ofNat 32 bytes.length }

/-- The state after reset, with an operation in progress whose window is empty. -/
def busyWith (op : EngineOp) : State := { State.reset with op := op }

/-- The state after reset with the host's next event being `e`. -/
def asked (e : HostEvent) : State := { State.reset with pending := [e] }

/-- A 32-bit access. -/
def access (write : Bool) (address : Nat) (data : Word) : HostEvent :=
  .access { write := write, address := address, width := .bits32, data := data }

/-! ### One-step vectors of spec/95_test_vectors.md -/

/-- C-B1. -/
theorem test_crcByte : (after (.crcByte 0x31) State.reset).map (fun t => (t.crc, t.statusWord)) =
    some (0x26D930AC, 0x02) := by decide +kernel
/-- Section 3.1, the corner (1, 0x01), and C-W1. -/
theorem test_crcByte_corners : crcStep 1 0x01 = 0 ∧ crcStep 0xFFFFFFFF 0x00 = 0x2DFD1072 := by decide +kernel
/-- C-I1. -/
theorem test_crcInit : (after .crcInit { State.reset with crc := 0x3A8639CB }).map (fun t => (t.crc, t.status.done)) =
    some (1, true) := by decide
/-- C-T1: the index stores 8 bits. -/
theorem test_wrTblIdx : (after (.wrTblIdx 0x101) State.reset).map (·.tblIdx) = some 1 := by decide
theorem test_rdTblData : (after .rdTblData { State.reset with tblIdx := 1 }).map (·.hostRead) =
    some (some 0x77073096) := by decide +kernel
/-- C-R1: START + COUNT = BUF_LEN is legal. -/
theorem test_crcRange_edge :
    (after .crcRange { State.reset with bufLen := 9, start := 9 }).map (fun t => (t.op, t.cursor, t.statusWord)) =
      some (.range, 9, 0x01) := by decide +kernel
/-- C-R6: the sum does not wrap. -/
theorem test_crcRange_wrap :
    (after .crcRange { State.reset with bufLen := 9, start := 0xFFFFFFFF, count := 2 }).map
      (fun t => (t.op, t.statusWord)) = some (.idle, 0x10) := by decide +kernel
/-- K-1: the four CHK registers of a valid frame. -/
theorem test_frameCheck :
    (after .frameCheck (loaded f0)).map (fun t => (t.chkResult, t.chkComputed, t.chkStored, t.chkCounter)) =
      some (7, 0x9D37C28A, 0x9D37C28A, 0x12345678) := by decide +kernel
/-- K-6: 0 + 69 > 68. -/
theorem test_frameCheck_window :
    (after .frameCheck { loaded f0 with frameSize := 69, chkResult := 3 }).map (fun t => (t.chkResult, t.statusWord)) =
      some (3, 0x10) := by decide +kernel
/-- H-17: two failed checks, one bit. -/
theorem test_scanStart_config :
    (after .scanStart { State.reset with bufLen := 0x1001, frameSize := 8 }).map (fun t => (t.op, t.statusWord)) =
      some (.idle, 0x08) := by decide +kernel
/-- S-15: FRAME_SIZE > BUF_LEN is legal. -/
theorem test_scanStart_empty :
    (after .scanStart { State.reset with bufLen := 68, frameSize := 69, validCount := 3 }).map
      (fun t => (t.op, t.validCount, t.statusWord)) = some (.scan, 0, 0x01) := by decide +kernel
/-- H-9. -/
theorem test_nop : (after .nop State.reset).map (·.statusWord) = some 0x02 := by decide +kernel
/-- H-6, H-7. -/
theorem test_wrCmd_illegal :
    (after (.wrCmd 0x02000100) { State.reset with status := { Status.reset with done := true } }).map
      (fun t => (t.statusWord, t.crc)) = some (0x04, 1) := by decide +kernel
/-- H-12: a write while busy. -/
theorem test_wrCrc_busy : (after (.wrCrc 0x1234) (busyWith .scan)).map (fun t => (t.statusWord, t.crc)) =
    some (0x21, 1) := by decide +kernel
/-- H-10, H-11. -/
theorem test_wrStatus : (after (.wrStatus 0x4) { State.reset with
      status := { Status.reset with cmdErr := true, cfgErr := true } }).map (·.statusWord) = some 0x08 := by decide +kernel
theorem test_wrStatus_low_bits : (after (.wrStatus 0x03) { State.reset with
      status := ⟨true, true, true, true, true, true, true⟩ }).map (·.statusWord) = some 0xFE := by decide +kernel
/-- H-4: the value is cut to a byte, and a write advances BUF_ADDR. -/
theorem test_wrBufData : (after (.wrBufData 0x1A5) State.reset).map (fun t => (t.buf, t.bufAddr)) =
    some ([(0, 0xA5)], 1) := by decide +kernel
/-- H-5: past the buffer's end. -/
theorem test_wrBufData_end : (after (.wrBufData 0x55) { State.reset with bufAddr := 0x1000 }).map
      (fun t => (t.statusWord, t.bufAddr, t.buf)) = some (0x40, 0x1000, []) := by decide +kernel
/-- H-4, H-5: a read does not advance, and past the end reads 0. -/
theorem test_rdBufData : (after .rdBufData { State.reset with buf := [(0, 0xA5)] }).map
      (fun t => (t.hostRead, t.bufAddr)) = some (some 0xA5, 0) := by decide +kernel
theorem test_rdBufData_end : (after .rdBufData { State.reset with bufAddr := 0x1000 }).map (·.hostRead) =
    some (some 0) := by decide +kernel
/-- P2's last reads, and S-17's: an index from n_stored on reads 0. -/
theorem test_rdResCounter : (after .rdResCounter { State.reset with
      validCount := 1, res := [(0, ⟨0, 0x12345678⟩)] }).map (·.hostRead) = some (some 0x12345678) := by decide +kernel
theorem test_rdResOffset_beyond : (after .rdResOffset { State.reset with
      resIdx := 1, validCount := 1, res := [(0, ⟨7, 0⟩)] }).map (·.hostRead) = some (some 0) := by decide +kernel
/-- H-1: two of its reads. -/
theorem test_rdFrameSize : (after .rdFrameSize State.reset).map (·.hostRead) = some (some 0x44) := by decide
theorem test_rdBufCapReg : (after .rdBufCapReg State.reset).map (·.hostRead) = some (some 0x1000) := by decide
/-- H-3: a write of a read-only register. -/
theorem test_wrValidCount_ignored : (after (.wrValidCountIgnored 5) State.reset).map
      (fun t => (t.validCount, t.statusWord)) = some (0, 0) := by decide +kernel

/-- C-R7: the second step of CRC_RANGE over "1234". -/
theorem test_rangeStep : (nextState? (engineStep { loaded [0x31, 0x32, 0x33, 0x34] with
      op := .range, count := 4, cursor := 1, crc := 0x26D930AC })).map (fun t => (t.crc, t.cursor, t.statusWord)) =
    some (0x17916773, 2, 0x01) := by decide +kernel
/-- S-1 after its first step. -/
theorem test_scanStep_valid : (nextState? (engineStep { loaded f0 with op := .scan })).map
      (fun t => (t.cursor, t.validCount, t.res, t.statusWord)) = some (68, 1, [(0, ⟨0, 0x12345678⟩)], 0x01) := by
  decide +kernel
/-- S-17's second frame, at its place: no room, so RES_OVF, and the frame is counted. -/
theorem test_scanStep_overflow : (nextState? (engineStep { loaded f0 with
      op := .scan, validCount := 64 })).map (fun t => (t.cursor, t.validCount, t.res, t.status.resOvf)) =
    some (68, 65, [], true) := by decide +kernel
/-- S4: a flip in the payload is a bad hit, one in the header none. -/
theorem test_scanStep_bad : (nextState? (engineStep { loaded (f0.set 4 0x05) with op := .scan })).map
      (fun t => (t.cursor, t.validCount, t.badCount)) = some (1, 0, 1) := by decide +kernel
theorem test_scanStep_no_header : (nextState? (engineStep { loaded (f0.set 0 0xA4) with op := .scan })).map
      (fun t => (t.cursor, t.validCount, t.badCount)) = some (1, 0, 0) := by decide +kernel
/-- S-4: 67 bytes hold no frame. -/
theorem test_scanStep_end : (nextState? (engineStep { loaded (f0.take 67) with op := .scan })).map
      (fun t => (t.cursor, t.op, t.statusWord)) = some (0, .idle, 0x02) := by decide +kernel

/-- The WR CRC the host has pending is what the step runs (R71, R86). -/
theorem test_step_access : (nextState? (step (asked (access true 0x08 0x1234)))).map (fun t => (t.crc, t.pending)) =
    some (0x1234, []) := by decide +kernel
/-- H-12 and H-13: the schedule decides between a dropped write and an engine step. -/
theorem test_step_schedule :
    (nextState? (step { asked (access true 0x08 0x1234) with op := .scan, schedule := [.host] })).map
      (fun t => (t.crc, t.statusWord)) = some (1, 0x21) ∧
    (nextState? (step { asked (access true 0x08 0x1234) with op := .scan, schedule := [.engine] })).map
      (fun t => (t.statusWord, t.pending)) = some (0x02, [access true 0x08 0x1234]) := by decide +kernel
/-- H-16: reset in mid-scan. -/
theorem test_step_reset :
    (nextState? (step { asked .reset with op := .scan, schedule := [.host], validCount := 5, crc := 7 })).map
      (fun t => (t.statusWord, t.validCount, t.crc)) = some (0, 0, 1) := by decide +kernel
/-- R64: misaligned and narrow accesses are refused. -/
theorem test_step_misaligned : step (asked (access false 0x09 0)) = .refused .misalignedAccess := rfl

/-! ### A state that meets the hypotheses of each statement, each clause's at its boundary -/

theorem witness_ResetInputGivesResetState : (asked .reset).turn = .host .reset State.reset ∧
    ({ asked .reset with op := .scan, schedule := [.host] } : State).turn = .host .reset (busyWith .scan) := by
  decide +kernel

/-- R60's window: its first and last offset. -/
theorem witness_StepRunsTheDecodedAccess :
    (asked (access true 0 0)).op = .idle ∧ (asked (access true 0 0)).pending = access true 0 0 :: [] ∧
    ({ asked (access true 0 0) with op := .scan, schedule := [.host] } : State).op ≠ .idle ∧
    inRegisterSpace State.reset.params 0 = true ∧ inRegisterSpace State.reset.params 255 = true := by decide +kernel

theorem witness_EngineStepsWhileBusy :
    (State.reset.op = .idle ∧ State.reset.pending = []) ∧
    ((busyWith .scan).op ≠ .idle ∧ (busyWith .scan).pending = [] ∧ (busyWith .scan).schedule = []) ∧
    ({ asked .reset with op := .range, schedule := [.engine] } : State).pending ≠ [] := by decide +kernel

/-- The 32-bit accesses just outside the space on either side. -/
theorem witness_AccessesOutsideTheSpaceAreRefused :
    (asked (access false 256 0)).turn = .host (access false 256 0) State.reset ∧
    inRegisterSpace State.reset.params 256 = false ∧
    inRegisterSpace { State.reset.params with regBase := 256 } 255 = false := by decide +kernel

/-- An 8-bit access inside the space; the first and the last misaligned descriptor. -/
theorem witness_OtherAccessesAreRefused :
    (asked (.access ⟨false, 0, .bits8, 0⟩)).turn = .host (.access ⟨false, 0, .bits8, 0⟩) State.reset ∧
    descAl 0x001 ≠ 0 ∧ descAl 0x1FF ≠ 0 := by decide +kernel

theorem witness_TableWordRunsNext : decodeTableWord 16 0x108 = some (.wrCrc 0) ∧
    decodeTableWord 32 0x020000FF = some (.crcByte 0xFF) := by decide

/-- A legal and an illegal CMD value at the edge of each field of R81. -/
theorem witness_CmdWriteDispatches :
    State.reset.op = .idle ∧ (busyWith .range).op ≠ .idle ∧
    [0x05000000, 0x06000000, 0x02000100, 0x00000001].map decodeCommand =
      [.ok .scanStart, .error .unassignedOpcode, .error .reservedBitsSet, .error .operandNotAllowed] := by decide

theorem witness_IllegalWordSetsCmdErrOnly : State.reset.op = .idle ∧
    0x06 ≤ (BitVec.extractLsb' 24 8 (0x06000000 : Word)).toNat ∧
    BitVec.extractLsb' 8 16 (0x02000100 : Word) ≠ 0 ∧
    BitVec.extractLsb' 0 8 (0x01000001 : Word) ≠ 0 ∧ (BitVec.extractLsb' 24 8 (0x01000001 : Word)).toNat ≠ 0x02 := by
  decide

theorem witness_LockedWritesAreDroppedWhileBusy :
    Instr.wrResIdx 5 ∈ lockedWrites 5 ++ commandRows 0 ∧ Instr.scanStart ∈ lockedWrites 5 ++ commandRows 0 ∧
    (busyWith .scan).op ≠ .idle := by decide

/-- An idle machine and a busy one, for the clauses of the commands and of the locked writes. -/
theorem witness_idle_and_busy : State.reset.op = .idle ∧ (busyWith .range).op ≠ .idle ∧ (busyWith .scan).op ≠ .idle := by
  decide

/-- NOP, CRC_INIT, FRAME_CHECK and SCAN_START with an operand at either end of bits 23:0; CRC_BYTE with bit 8 set. -/
theorem witness_command_with_operand :
    (BitVec.extractLsb' 24 8 (0x00000001 : Word) = 0x00 ∧ BitVec.extractLsb' 0 24 (0x00000001 : Word) ≠ 0) ∧
    (BitVec.extractLsb' 24 8 (0x01800000 : Word) = 0x01 ∧ BitVec.extractLsb' 0 24 (0x01800000 : Word) ≠ 0) ∧
    (BitVec.extractLsb' 24 8 (0x02000100 : Word) = 0x02 ∧ BitVec.extractLsb' 8 16 (0x02000100 : Word) ≠ 0) ∧
    (BitVec.extractLsb' 24 8 (0x04000001 : Word) = 0x04 ∧ BitVec.extractLsb' 0 24 (0x04000001 : Word) ≠ 0) ∧
    (BitVec.extractLsb' 24 8 (0x05800000 : Word) = 0x05 ∧ BitVec.extractLsb' 0 24 (0x05800000 : Word) ≠ 0) := by decide

/-- A CRC_RANGE asked for on an idle machine. -/
def rangeAsked (bufLen count : Word) : State := { State.reset with bufLen := bufLen, start := 0xFFF, count := count }

/-- BUF_LEN one above BUF_CAP, and at it; START + COUNT one above BUF_LEN, and at it. -/
theorem witness_CrcRangeIssueChecksItsWindow :
    ((rangeAsked 0x1001 0).op = .idle ∧
      (rangeAsked 0x1001 0).params.bufCap.toNat < (rangeAsked 0x1001 0).bufLen.toNat) ∧
    ((rangeAsked 0x1000 2).op = .idle ∧
      (rangeAsked 0x1000 2).bufLen.toNat ≤ (rangeAsked 0x1000 2).params.bufCap.toNat ∧
      (rangeAsked 0x1000 2).bufLen.toNat < (rangeAsked 0x1000 2).start.toNat + (rangeAsked 0x1000 2).count.toNat) ∧
    ((rangeAsked 0x1000 1).op = .idle ∧
      (rangeAsked 0x1000 1).bufLen.toNat ≤ (rangeAsked 0x1000 1).params.bufCap.toNat ∧
      (rangeAsked 0x1000 1).start.toNat + (rangeAsked 0x1000 1).count.toNat ≤ (rangeAsked 0x1000 1).bufLen.toNat) := by
  decide

/-- A FRAME_CHECK asked for on an idle machine. -/
def checkAsked (bufLen start frameSize : Word) : State :=
  { State.reset with bufLen := bufLen, start := start, frameSize := frameSize }

/-- BUF_LEN one above BUF_CAP; FRAME_SIZE at 59 and 60; the window's end one above BUF_LEN and at it. -/
theorem witness_FrameCheckClassifies :
    ((checkAsked 0x1001 0 68).op = .idle ∧
      (checkAsked 0x1001 0 68).params.bufCap.toNat < (checkAsked 0x1001 0 68).bufLen.toNat) ∧
    (checkAsked 68 0 59).frameSize.toNat < 60 ∧
    ((checkAsked 68 9 60).bufLen.toNat ≤ (checkAsked 68 9 60).params.bufCap.toNat ∧
      60 ≤ (checkAsked 68 9 60).frameSize.toNat ∧
      (checkAsked 68 9 60).bufLen.toNat < (checkAsked 68 9 60).start.toNat + (checkAsked 68 9 60).frameSize.toNat) ∧
    ((checkAsked 68 8 60).bufLen.toNat ≤ (checkAsked 68 8 60).params.bufCap.toNat ∧
      60 ≤ (checkAsked 68 8 60).frameSize.toNat ∧
      (checkAsked 68 8 60).start.toNat + (checkAsked 68 8 60).frameSize.toNat ≤ (checkAsked 68 8 60).bufLen.toNat) := by
  decide

theorem witness_ScanStartIssue :
    (checkAsked 0x1000 0 60).op = .idle ∧
    ((checkAsked 0x1000 0 60).bufLen.toNat ≤ (checkAsked 0x1000 0 60).params.bufCap.toNat ∧
      60 ≤ (checkAsked 0x1000 0 60).frameSize.toNat) ∧
    (checkAsked 0x1000 0 59).frameSize.toNat < 60 ∧
    (checkAsked 0x1001 0 60).params.bufCap.toNat < (checkAsked 0x1001 0 60).bufLen.toNat := by decide

/-- BUF_ADDR at BUF_CAP - 1 and at BUF_CAP, and a byte nothing has written. -/
theorem witness_BufData :
    State.reset.op = .idle ∧ (busyWith .scan).op ≠ .idle ∧
    ({ State.reset with bufAddr := 0xFFF } : State).bufAddr.toNat < State.reset.params.bufCap.toNat ∧
    State.reset.params.bufCap.toNat ≤ ({ State.reset with bufAddr := 0x1000 } : State).bufAddr.toNat ∧
    (∀ c ∈ (loaded f0).buf, c.1 ≠ (68 : Word).toNat) := by decide +kernel

/-- VALID_COUNT above RES_DEPTH, the host about to read entry `k`. -/
def resultAsked (k : Word) : State := { State.reset with validCount := 70, resIdx := k }

/-- RES_IDX at n_stored - 1 and at n_stored. -/
theorem witness_ResultReadPort :
    (resultAsked 63).resIdx.toNat < min (resultAsked 63).validCount.toNat (resultAsked 63).params.resDepth.toNat ∧
    min (resultAsked 64).validCount.toNat (resultAsked 64).params.resDepth.toNat ≤ (resultAsked 64).resIdx.toNat := by
  decide

/-- The first and the last reserved offset, as a write and as a read. -/
theorem witness_ReservedAndReadOnlyOffsets :
    (descAl 0x15C = 0 ∧ 0x17 ≤ (descWord 0x15C).toNat ∧ descWrite 0x15C = true) ∧
    (descAl 0x0FC = 0 ∧ 0x17 ≤ (descWord 0x0FC).toNat ∧ descWrite 0x0FC = false) := by decide

theorem witness_ReadsHaveNoSideEffect : (descAl 0x000 = 0 ∧ descWrite 0x000 = false) ∧
    (descAl 0x0FC = 0 ∧ descWrite 0x0FC = false) := by decide

/-- A CRC_RANGE of four bytes under way. -/
def ranging (cursor : Word) : State := { loaded f0 with op := .range, count := 4, cursor := cursor }

/-- CURSOR at the range's end and one before it. -/
theorem witness_RangeStepFeedsOneByte :
    ((ranging 4).op = .range ∧ (ranging 4).cursor.toNat = (ranging 4).start.toNat + (ranging 4).count.toNat) ∧
    ((ranging 3).op = .range ∧ (ranging 3).cursor.toNat ≠ (ranging 3).start.toNat + (ranging 3).count.toNat ∧
      (ranging 3).cursor.toNat < (ranging 3).params.bufCap.toNat) := by decide +kernel

/-- A scan under way over the bytes. -/
def scanning (bytes : List Byte) (cursor validCount : Word) : State :=
  { loaded bytes with op := .scan, cursor := cursor, validCount := validCount }

/-- The window checks of a scan step that examines the candidate at the cursor. -/
abbrev Examines (s : State) : Prop :=
  s.op = .scan ∧ s.bufLen.toNat ≤ s.params.bufCap.toNat ∧ 60 ≤ s.frameSize.toNat ∧
    s.cursor.toNat + s.frameSize.toNat ≤ s.bufLen.toNat

/-- The first offset that cannot hold a frame, and the last that can: with no header there, or a failing checksum. -/
theorem witness_ScanStepWithoutAFrame :
    ((scanning f0 1 0).op = .scan ∧
      (scanning f0 1 0).bufLen.toNat < (scanning f0 1 0).cursor.toNat + (scanning f0 1 0).frameSize.toNat) ∧
    (Examines (scanning (f0.set 0 0xA4) 0 0) ∧ (scanning (f0.set 0 0xA4) 0 0).hdrMatch 0 = false) ∧
    (Examines (scanning (f0.set 4 0x05) 0 0) ∧ (scanning (f0.set 4 0x05) 0 0).hdrMatch 0 = true ∧
      (scanning (f0.set 4 0x05) 0 0).frameCrc 0 68 ≠ (scanning (f0.set 4 0x05) 0 0).storedCrc 0 68) := by decide +kernel

/-- VALID_COUNT at RES_DEPTH - 1 and at RES_DEPTH. -/
theorem witness_ScanStepRecordsAValidFrame :
    Examines (scanning f0 0 63) ∧ (scanning f0 0 63).hdrMatch 0 = true ∧
    (scanning f0 0 63).frameCrc 0 68 = (scanning f0 0 63).storedCrc 0 68 ∧
    (scanning f0 0 63).validCount.toNat < (scanning f0 0 63).params.resDepth.toNat ∧
    ¬ (scanning f0 0 64).validCount.toNat < (scanning f0 0 64).params.resDepth.toNat := by decide +kernel

theorem witness_RangeComputesTheChecksum :
    (loaded f0).op = .idle ∧ (loaded f0).pending = [] ∧ (loaded f0).bufLen.toNat ≤ (loaded f0).params.bufCap.toNat ∧
    ({ loaded f0 with start := 4, count := 64 } : State).start.toNat + (64 : Word).toNat ≤ (loaded f0).bufLen.toNat := by
  decide +kernel

theorem witness_ScanMatchesTheSourceAlgorithm :
    (loaded f0).op = .idle ∧ (loaded f0).pending = [] ∧ (loaded f0).bufLen.toNat ≤ (loaded f0).params.bufCap.toNat ∧
    60 ≤ (loaded f0).frameSize.toNat := by decide +kernel

/-- K-1's frame: checked, and stepped over by the scan. -/
theorem witness_FrameCheckAgreesWithTheScan :
    (loaded f0).op = .idle ∧ (loaded f0).bufLen.toNat ≤ (loaded f0).params.bufCap.toNat ∧
    60 ≤ (loaded f0).frameSize.toNat ∧ (loaded f0).start.toNat + (loaded f0).frameSize.toNat ≤ (loaded f0).bufLen.toNat ∧
    (after .frameCheck (loaded f0)).isSome = true ∧
    (nextState? (engineStep { loaded f0 with op := .scan, cursor := (loaded f0).start })).isSome = true := by
  decide +kernel

/-- The invariant holds while a scan runs, and while a range runs, on an empty window. -/
theorem witness_inv_busy (op : EngineOp) : (busyWith op).Inv where
  params_legal := by cases op <;> decide
  buf_canonical := List.Pairwise.nil
  buf_inside := nofun
  res_canonical := List.Pairwise.nil
  res_inside := nofun
  readable_written := fun k hk => absurd hk (Nat.not_lt_zero k)
  valid_bit := by cases op <;> decide
  busy_not_done := fun _ => rfl
  range_window := fun _ => by cases op <;> decide
  scan_config := fun _ => by cases op <;> decide
  scan_cursor := fun _ => by cases op <;> decide
  scan_counts := fun _ => by cases op <;> decide

/-- The invariant with a result that a scan wrote, at rest and read next. -/
theorem witness_inv_result :
    ({ State.reset with validCount := 1, res := [(0, ⟨0, 5⟩)] } : State).Inv where
  params_legal := by decide
  buf_canonical := List.Pairwise.nil
  buf_inside := nofun
  res_canonical := by decide
  res_inside := by decide
  readable_written := fun k hk => by
    have : k = 0 := Nat.lt_one_iff.1 (Nat.lt_of_lt_of_le hk (Nat.min_le_left _ _))
    subst this
    decide
  valid_bit := by decide
  busy_not_done := fun h => absurd rfl h
  range_window := nofun
  scan_config := nofun
  scan_cursor := nofun
  scan_counts := nofun

theorem witness_UnwrittenResultsAreNeverSeen :
    ({ State.reset with validCount := 1, res := [(0, ⟨0, 5⟩)] } : State).resIdx.toNat <
      ({ State.reset with validCount := 1, res := [(0, ⟨0, 5⟩)] } : State).nStored := by decide

/-- A running scan with no result yet: the invariants of R166 and R167 hold, and a step answers. -/
theorem witness_results_of_a_running_scan :
    (busyWith .scan).ResultsValid ∧ (busyWith .scan).ResultsAscend ∧ ∃ t, step (busyWith .scan) = .next t :=
  ⟨fun _ _ hk => absurd hk (Nat.not_lt_zero _), fun _ _ hk => absurd hk (Nat.not_lt_zero _), _, rfl⟩

theorem witness_ScanCountsAreBounded : (busyWith .scan).Inv ∧ (busyWith .scan).op = .scan :=
  ⟨witness_inv_busy .scan, rfl⟩

theorem turn_busyWith : (busyWith .range).turn = .engine (busyWith .range) := by decide +kernel

/-- A busy machine with an engine step at hand, and no reset. -/
theorem witness_BusyFreezesTheEnginesInputs :
    (busyWith .range).op ≠ .idle ∧ ¬ (busyWith .range).resetIsNext ∧ ∃ t, step (busyWith .range) = .next t :=
  ⟨by decide, (fun ⟨_, h⟩ => by rw [turn_busyWith] at h; cases h), _, rfl⟩

theorem witness_HostCannotDisturbTheEngine :
    (busyWith .scan).op ≠ .idle ∧ ∃ t, exec (.wrBufLen 5) (busyWith .scan) = .next t := ⟨by decide, _, rfl⟩

theorem witness_ErrorBitsAreSticky :
    (nextState? (step { asked (access true 0x04 0x20) with status := Status.reset.raise .busyErr })).map
      (·.status.error .busyErr) = some false ∧
    (nextState? (step { asked (access true 0x04 0x10) with status := Status.reset.raise .busyErr })).map
      (·.status.error .busyErr) = some true := by decide +kernel

theorem witness_OneErrorPerAccess :
    State.reset.status.error .cmdErr = false ∧
    (after (.wrCmd 0x06000000) State.reset).map (·.status.error .cmdErr) = some true := by decide +kernel

theorem turn_reset : State.reset.turn = .nobody := by decide +kernel

theorem witness_OnlyBufDataWritesChangeTheBuffer :
    (∃ t, step State.reset = .next t) ∧ ¬ State.reset.resetIsNext ∧
    ∀ v : Word, ¬ State.reset.instrIsNext (.wrBufData v) :=
  ⟨⟨_, rfl⟩, (fun ⟨_, h⟩ => by rw [turn_reset] at h; cases h), fun _ ⟨_, _, h, _⟩ => by rw [turn_reset] at h; cases h⟩

theorem witness_ScanAndCheckLeaveTheAccumulator :
    (busyWith .scan).op = .scan ∧ (∃ t, engineStep (busyWith .scan) = .next t) ∧
    (∃ t, exec .scanStart State.reset = .next t) ∧ ∃ t, exec .frameCheck State.reset = .next t :=
  ⟨rfl, ⟨_, rfl⟩, ⟨_, rfl⟩, _, rfl⟩

/-- Two buffers that agree on the window and differ one byte past it. -/
theorem witness_FrameCheckReadsOnlyItsWindow :
    (∀ a, 0 ≤ a → a < 68 → ({ loaded f0 with buf := bufOf (f0 ++ [1]) } : State).bufByte a =
      ({ loaded f0 with buf := bufOf (f0 ++ [2]) } : State).bufByte a) ∧
    ({ loaded f0 with buf := bufOf (f0 ++ [1]) } : State).bufByte 68 ≠
      ({ loaded f0 with buf := bufOf (f0 ++ [2]) } : State).bufByte 68 ∧
    (after .frameCheck { loaded f0 with buf := bufOf (f0 ++ [1]) }).isSome = true ∧
    (after .frameCheck { loaded f0 with buf := bufOf (f0 ++ [2]) }).isSome = true :=
  ⟨fun a _ h => by revert a; decide +kernel, by decide +kernel, by decide +kernel, by decide +kernel⟩

theorem witness_CrcBytesStreamTheChecksum : State.reset.op = .idle ∧ ([0x31] : List Byte) ≠ [] := by decide

end Sys2Proof.Tests
end

/-! PROOFS. Who moves in a step, and what a step leaves of the capture buffer (10_state R41, R43). -/
namespace Sys2Proof.Machine
open Sys2Proof

/-! ### Who moves -/

theorem step_of_turn_nobody {s : State} (h : s.turn = .nobody) : step s = .next s := by
  simp only [step, h]

theorem step_of_turn_engine {s s' : State} (h : s.turn = .engine s') : step s = engineStep s' := by
  simp only [step, h]

/-- Settles O4: each clause names whose turn it is, and the step is that agent's move. -/
theorem engineStepsWhileBusy : Obligations.EngineStepsWhileBusy := by
  unfold Obligations.EngineStepsWhileBusy
  refine ⟨fun s hidle hp => ?_, fun s hbusy hp => ?_, fun s hbusy hs => ?_, fun s later hbusy hp hs => ?_⟩
  · exact step_of_turn_nobody (State.turn_idle_nil hidle hp)
  · exact step_of_turn_engine (State.turn_busy_nil hbusy hp)
  · exact step_of_turn_engine (State.turn_busy_unscheduled hbusy hs)
  · obtain ⟨e, rest, hcons⟩ := List.exists_cons_of_ne_nil hp
    exact step_of_turn_engine (State.turn_busy_engine hbusy hcons hs)

/-! ### The capture buffer -/

theorem SameMachine.bufByte_eq {s t : State} (h : SameMachine s t) : t.bufByte = s.bufByte := by
  rw [h.eq]; rfl

/-- No command writes `buf`. -/
theorem CommandEffect.bufByte_eq {s t : State} {c : Command} (h : CommandEffect s c t) : t.bufByte = s.bufByte := by
  cases h <;> exact State.bufByte_congr rfl rfl

/-- Taking a frame writes `res`, not `buf` (R166). -/
theorem State.takeFrame_bufByte (s : State) : s.takeFrame.bufByte = s.bufByte := by
  obtain ⟨-, -, -, -, -, -, -, -, -, -, -, -, -, -, -, -, hbuf, hepoch, -⟩ :=
    s.record_frame s.cursor (s.counterAt s.cursor.toNat)
  exact State.bufByte_congr hbuf hepoch

/-- The engine reads `buf` and never writes it. -/
theorem EngineEffect.bufByte_eq {s t : State} (h : EngineEffect s t) : t.bufByte = s.bufByte := by
  cases h with
  | takeFrame => exact s.takeFrame_bufByte
  | _ => exact State.bufByte_congr rfl rfl

/-- The one instruction that writes a byte is WR BUF_DATA (R195). -/
theorem Effect.bufByte_eq {s t : State} {i : Instr} (h : Effect s i t) (hi : ∀ v, i ≠ .wrBufData v) :
    t.bufByte = s.bufByte := by
  cases h with
  | bufData v => exact absurd rfl (hi v)
  | command _ _ _ _ _ run =>
    calc t.bufByte = s.beginCommand.bufByte := run.bufByte_eq
      _ = s.bufByte := State.bufByte_congr rfl rfl
  | _ => exact State.bufByte_congr rfl rfl

/-- Settles O53, by the cases of what a step can do: nobody's and the engine's moves keep `buf`, the reset is excluded,
and so is the one instruction that writes a byte. -/
theorem onlyBufDataWritesChangeTheBuffer : Obligations.OnlyBufDataWritesChangeTheBuffer := by
  unfold Obligations.OnlyBufDataWritesChangeTheBuffer
  intro s t hstep hreset hwrite
  suffices h : t.bufByte = s.bufByte from congrFun h
  cases step_effect hstep with
  | nobody => rfl
  | engine s' _ _ same run => exact run.bufByte_eq.trans same.bufByte_eq
  | reset s' hturn => exact absurd ⟨s', hturn⟩ hreset
  | instr s' _ i hnext same run =>
    have hi : ∀ v, i ≠ .wrBufData v := fun v hv => hwrite v (hv ▸ hnext)
    exact (run.bufByte_eq hi).trans same.bufByte_eq

end Sys2Proof.Machine

/-! PROOFS. The bus and the turns (20_memory): how the host's accesses are fetched and refused, what reads and reserved
offsets do, what a host access leaves of a running command, and that every step keeps the invariant. -/
namespace Sys2Proof.Machine
open Sys2Proof

/-! ### The invariant (R37, R47, R61, R109, R160, R173, R175, R253)

`State.Inv` says some things of every state and some of a busy one only. The first are `State.StoredInv`; while op is
IDLE they are all of it, so an access of an idle machine has only them to keep. -/

/-- The part of the invariant that does not mention `op`. -/
structure State.StoredInv (s : State) : Prop where
  params_legal : s.params.Legal
  buf_canonical : Memory.wf s.buf
  buf_inside : ∀ c ∈ s.buf, c.1 < s.params.bufCap.toNat
  res_canonical : Memory.wf s.res
  res_inside : ∀ c ∈ s.res, c.1 < s.params.resDepth.toNat
  readable_written : ∀ k, k < s.nStored → (Memory.read? s.res k).isSome = true
  valid_bit : s.chkResult.getLsbD 2 = (s.chkResult.getLsbD 1 && s.chkResult.getLsbD 0)

theorem State.Inv.stored {s : State} (h : s.Inv) : s.StoredInv := { h with }

theorem State.StoredInv.inv_of_idle {s : State} (h : s.StoredInv) (hidle : s.op = .idle) : s.Inv :=
  { h with
    busy_not_done := fun hbusy => absurd hidle hbusy
    range_window := fun hop => nomatch hidle.symm.trans hop
    scan_config := fun hop => nomatch hidle.symm.trans hop
    scan_cursor := fun hop => nomatch hidle.symm.trans hop
    scan_counts := fun hop => nomatch hidle.symm.trans hop }

/-- Nothing but `status` differs, and DONE does not: the invariant speaks of no error bit. -/
theorem State.Inv.withStatus {s : State} (h : s.Inv) {st : Status} (hdone : st.done = s.status.done) :
    ({ s with status := st } : State).Inv :=
  { h with busy_not_done := fun hbusy => hdone.trans (h.busy_not_done hbusy) }

theorem SameMachine.inv {s t : State} (hsame : SameMachine s t) (h : s.Inv) : t.Inv := by
  rw [hsame.eq]
  exact { h with }

theorem State.Inv.applyReset {s : State} (h : s.Inv) : s.applyReset.Inv :=
  State.StoredInv.inv_of_idle (hidle := rfl)
    { params_legal := h.params_legal
      buf_canonical := Memory.wf_nil
      buf_inside := nofun
      res_canonical := Memory.wf_nil
      res_inside := nofun
      readable_written := fun k hk => absurd (hk.trans_le (Nat.min_le_left _ _)) (Nat.not_lt_zero k)
      valid_bit := by simp [State.applyReset, State.resetWith] }

/-- CHK_RESULT's VALID is HDR_MATCH and CRC_MATCH (R37). -/
theorem State.classBits_valid (s : State) (a fs : Nat) :
    (s.classBits a fs).getLsbD 2 = ((s.classBits a fs).getLsbD 1 && (s.classBits a fs).getLsbD 0) := by
  unfold State.classBits
  cases s.hdrMatch a <;> cases s.crcMatch a fs <;> rfl

/-- A command issued to an idle machine: the two stepped ones start inside what their issue checked (R109, R160). -/
theorem CommandEffect.inv {s t : State} {c : Command} (run : CommandEffect s c t) (h : s.Inv) (hidle : s.op = .idle)
    (hdone : s.status.done = false) : t.Inv := by
  cases run with
  | crcRange hlen hend =>
    exact { h with
      busy_not_done := fun _ => hdone
      range_window := fun _ => ⟨hlen, le_rfl, Nat.le_add_right _ _, hend⟩
      scan_config := nofun
      scan_cursor := nofun
      scan_counts := nofun }
  | scanStart hlen hfs =>
    exact { h with
      readable_written := fun k hk => absurd (hk.trans_le (Nat.min_le_left _ _)) (Nat.not_lt_zero k)
      busy_not_done := fun _ => hdone
      range_window := nofun
      scan_config := fun _ => ⟨hlen, hfs⟩
      scan_cursor := fun _ => ⟨fun _ => Nat.zero_le _, fun _ => rfl⟩
      scan_counts := fun _ => by simp }
  | frameCheck =>
    exact State.StoredInv.inv_of_idle { h.stored with valid_bit := s.classBits_valid _ _ } hidle
  | _ => exact State.StoredInv.inv_of_idle { h.stored with } hidle

/-- A byte stored below BUF_CAP keeps `buf` canonical and inside it (R61). -/
theorem State.StoredInv.writeByte {s : State} (h : s.StoredInv) {a : Nat} (ha : a < s.params.bufCap.toNat) (v : Byte) :
    (s.writeByte a v).StoredInv :=
  { h with
    buf_canonical := State.writeByte_wf a v h.buf_canonical
    buf_inside := fun c hc => by
      rcases Memory.mem_write hc with rfl | hc
      · exact ha
      · exact h.buf_inside c hc }

/-- Whatever an instruction does, it keeps the invariant: while busy only STATUS' error bits and the host's value can
change, and while idle only the stored part is at stake. -/
theorem Effect.inv {s t : State} {i : Instr} (run : Effect s i t) (h : s.Inv) : t.Inv := by
  cases run with
  | nothing => exact h
  | answer => exact { h with }
  | statusClear v => exact h.withStatus (Status.clear_done _ v)
  | dropped => exact h.withStatus (Status.raise_done _ _)
  | addrErr => exact h.withStatus (Status.raise_done _ _)
  | cmdErr v hidle => exact State.StoredInv.inv_of_idle { h.stored with } hidle
  | bufData v hidle hinside =>
    exact State.StoredInv.inv_of_idle { h.stored.writeByte hinside (v.setWidth 8) with } hidle
  | command _ _ _ hidle _ run =>
    have hbegun : s.beginCommand.Inv := State.StoredInv.inv_of_idle { h.stored with } hidle
    exact run.inv hbegun hidle rfl
  | crc _ hidle | bufLen _ hidle | frameSize _ hidle | start _ hidle | count _ hidle | bufAddr _ hidle | tblIdx _ hidle
  | resIdx _ hidle => exact State.StoredInv.inv_of_idle { h.stored with } hidle

theorem State.Inv.finish {s : State} (h : s.Inv) : s.finish.Inv :=
  State.StoredInv.inv_of_idle { h.stored with } rfl

/-- The cursor of a range that has not ended stays inside the range (R110). -/
theorem State.Inv.rangeByte {s : State} (h : s.Inv) (hop : s.op = .range) (hend : s.cursor.toNat ≠ s.rangeEnd) :
    ({ s with crc := crcStep s.crc (s.bufByte s.cursor.toNat), cursor := s.cursor + 1 } : State).Inv := by
  obtain ⟨hlen, hstart, hcursor, hlast⟩ := h.range_window hop
  have hbefore : s.cursor.toNat < s.rangeEnd := Nat.lt_of_le_of_ne hcursor hend
  have hnext : (s.cursor + 1).toNat = s.cursor.toNat + 1 := by
    have := s.bufLen.isLt
    exact BitVec.toNat_add_of_lt (by simp; omega)
  exact { h with
    range_window := fun _ => ⟨hlen, hnext ▸ Nat.le_succ_of_le hstart, hnext ▸ hbefore, hlast⟩
    scan_config := fun hscan => nomatch hop.symm.trans hscan
    scan_cursor := fun hscan => nomatch hop.symm.trans hscan
    scan_counts := fun hscan => nomatch hop.symm.trans hscan }

/-- What a running scan needs, where a frame fits the buffer at all. -/
theorem State.StoredInv.inv_of_scan {s : State} (h : s.StoredInv) (hop : s.op = .scan) (hdone : s.status.done = false)
    (hlen : s.bufLen.toNat ≤ s.params.bufCap.toNat) (hfs : Config.fsMin ≤ s.frameSize.toNat)
    (hfits : s.frameSize.toNat ≤ s.bufLen.toNat) (hcursor : s.cursor.toNat ≤ s.bufLen.toNat)
    (hspan : s.validCount.toNat * s.frameSize.toNat + s.badCount.toNat ≤ s.cursor.toNat)
    (hcount : s.validCount.toNat + s.badCount.toNat ≤ s.bufLen.toNat + 1 - s.frameSize.toNat) : s.Inv :=
  { h with
    busy_not_done := fun _ => hdone
    range_window := fun hrange => nomatch hop.symm.trans hrange
    scan_config := fun _ => ⟨hlen, hfs⟩
    scan_cursor := fun _ => ⟨fun _ => hcursor, fun hshort => absurd hshort (Nat.not_lt.2 hfits)⟩
    scan_counts := fun _ => ⟨hspan, hcount⟩ }

/-- While a scan has a frame's room ahead of its cursor, none of its increments wraps (R175). -/
theorem State.Inv.scan_increments {s : State} (h : s.Inv) (hop : s.op = .scan)
    (hin : s.cursor.toNat + s.frameSize.toNat ≤ s.bufLen.toNat) :
    (s.cursor + 1).toNat = s.cursor.toNat + 1 ∧
    (s.cursor + s.frameSize).toNat = s.cursor.toNat + s.frameSize.toNat ∧
    (s.validCount + 1).toNat = s.validCount.toNat + 1 ∧ (s.badCount + 1).toNat = s.badCount.toNat + 1 := by
  obtain ⟨-, hfs⟩ := h.scan_config hop
  obtain ⟨hspan, -⟩ := h.scan_counts hop
  have hpos : 0 < s.frameSize.toNat := Nat.lt_of_lt_of_le (by decide) hfs
  have hvalid := Nat.le_mul_of_pos_right s.validCount.toNat hpos
  have hlen := s.bufLen.isLt
  refine ⟨?_, ?_, ?_, ?_⟩ <;> apply BitVec.toNat_add_of_lt <;> simp <;> omega

/-- A recorded result is written where it is readable, and below RES_DEPTH (R166, R228). -/
theorem State.StoredInv.record {s : State} (h : s.StoredInv)
    (hwrap : (s.validCount + 1).toNat = s.validCount.toNat + 1) (i cnt : Word) : (s.record i cnt).StoredInv := by
  by_cases hroom : s.validCount.toNat < s.params.resDepth.toNat
  · rw [State.record_room hroom]
    exact { h with
      res_canonical := Memory.wf_write _ _ h.res_canonical
      res_inside := fun c hc => by
        rcases Memory.mem_write hc with rfl | hc
        · exact hroom
        · exact h.res_inside c hc
      readable_written := fun k hk => by
        simp only [State.nStored, hwrap] at hk
        by_cases hnew : k = s.validCount.toNat
        · simp [hnew]
        · rw [Memory.read?_write_of_ne _ _ hnew]
          exact h.readable_written k (by simp only [State.nStored]; omega) }
  · rw [State.record_full hroom]
    exact { h with
      readable_written := fun k hk => by
        simp only [State.nStored, State.raise_params, hwrap] at hk
        exact h.readable_written k (by simp only [State.nStored]; omega) }

theorem State.Inv.skipByte {s : State} (h : s.Inv) (hop : s.op = .scan)
    (hin : s.cursor.toNat + s.frameSize.toNat ≤ s.bufLen.toNat) : s.skipByte.Inv := by
  obtain ⟨hlen, hfs⟩ := h.scan_config hop
  obtain ⟨hspan, hcount⟩ := h.scan_counts hop
  obtain ⟨hcursor, -, -, -⟩ := h.scan_increments hop hin
  have hmin : 60 ≤ s.frameSize.toNat := hfs
  have hdone := h.busy_not_done (by simp [hop])
  refine State.StoredInv.inv_of_scan { h.stored with } hop hdone hlen hfs ?_ ?_ ?_ hcount <;>
    simp only [State.skipByte_cursor, State.skipByte_frameSize, State.skipByte_bufLen, State.skipByte_validCount,
      State.skipByte_badCount, hcursor] <;> omega

theorem State.Inv.countBad {s : State} (h : s.Inv) (hop : s.op = .scan)
    (hin : s.cursor.toNat + s.frameSize.toNat ≤ s.bufLen.toNat) : s.countBad.Inv := by
  obtain ⟨hlen, hfs⟩ := h.scan_config hop
  obtain ⟨hspan, hcount⟩ := h.scan_counts hop
  obtain ⟨hcursor, -, -, hbad⟩ := h.scan_increments hop hin
  have hmin : 60 ≤ s.frameSize.toNat := hfs
  have hvalid := Nat.le_mul_of_pos_right s.validCount.toNat (show 0 < s.frameSize.toNat by omega)
  have hdone := h.busy_not_done (by simp [hop])
  refine State.StoredInv.inv_of_scan { h.stored with } hop hdone hlen hfs ?_ ?_ ?_ ?_ <;>
    simp only [State.countBad_cursor, State.countBad_frameSize, State.countBad_bufLen, State.countBad_validCount,
      State.countBad_badCount, hcursor, hbad] <;> omega

/-- What `takeFrame` does to the registers: the cursor and VALID_COUNT move, and what the engine reads stays (R163). -/
@[simp] theorem State.takeFrame_registers (s : State) :
    s.takeFrame.params = s.params ∧ s.takeFrame.op = s.op ∧ s.takeFrame.status.done = s.status.done ∧
    s.takeFrame.bufLen = s.bufLen ∧ s.takeFrame.frameSize = s.frameSize ∧ s.takeFrame.start = s.start ∧
    s.takeFrame.count = s.count ∧ s.takeFrame.buf = s.buf ∧ s.takeFrame.badCount = s.badCount ∧
    s.takeFrame.validCount = s.validCount + 1 ∧ s.takeFrame.cursor = s.cursor + s.frameSize := by
  simp [State.takeFrame, State.record_frame]

theorem State.Inv.takeFrame {s : State} (h : s.Inv) (hop : s.op = .scan)
    (hin : s.cursor.toNat + s.frameSize.toNat ≤ s.bufLen.toNat) : s.takeFrame.Inv := by
  obtain ⟨hlen, hfs⟩ := h.scan_config hop
  obtain ⟨hspan, hcount⟩ := h.scan_counts hop
  obtain ⟨-, hcursor, hvalid, -⟩ := h.scan_increments hop hin
  have hstored := h.stored.record hvalid s.cursor (s.counterAt s.cursor.toNat)
  have hpos : 0 < s.frameSize.toNat := Nat.lt_of_lt_of_le (by decide) hfs
  have hle := Nat.le_mul_of_pos_right s.validCount.toNat hpos
  refine State.StoredInv.inv_of_scan { hstored with } (by simp [hop]) ?_ ?_ ?_ ?_ ?_ ?_ ?_ <;>
    simp only [State.takeFrame_registers, hcursor, hvalid, Nat.succ_mul]
  · exact h.busy_not_done (by simp [hop])
  all_goals omega

/-- An engine step keeps the invariant: a step that ends the command leaves an idle machine, and every other moves the
cursor and the counts inside their bounds. -/
theorem EngineEffect.inv {s t : State} (run : EngineEffect s t) (h : s.Inv) : t.Inv := by
  cases run with
  | idle => exact h
  | rangeEnd => exact h.finish
  | scanEnd => exact h.finish
  | rangeByte hop hend => exact h.rangeByte hop hend
  | skipByte hop hin => exact h.skipByte hop hin
  | countBad hop hin => exact h.countBad hop hin
  | takeFrame hop hin => exact h.takeFrame hop hin

/-- Settles O44, by the cases of what a step can do; each kind of move keeps the invariant by its own lemma. -/
theorem everyStepKeepsTheInvariant : Obligations.EveryStepKeepsTheInvariant := by
  unfold Obligations.EveryStepKeepsTheInvariant
  intro s t hinv hstep
  cases step_effect hstep with
  | nobody => exact hinv
  | engine _ _ _ same run => exact run.inv (same.inv hinv)
  | reset _ _ same => exact (same.inv hinv).applyReset
  | instr _ _ _ _ same run => exact run.inv (same.inv hinv)

/-! ### Reserved and read-only offsets (R66) -/

/-- The reserved offsets are 0x5C, 0x60 to 0x7C and 0x80 to 0xFC. -/
theorem reserved_word_cases {word : BitVec 6} (h : 0x17 ≤ word.toNat) :
    word = 0x17 ∨ wordIn60to7C word = true ∨ wordIn80toFC word = true := by
  have hword : word = 0x17 ↔ word.toNat = 0x17 := BitVec.toNat_inj.symm
  simp only [hword, wordIn60to7C, wordIn80toFC, Bool.and_eq_true, decide_eq_true_eq]
  omega

theorem exec_decodeWrite_reserved {word : BitVec 6} (h : 0x17 ≤ word.toNat) (v : Word) (s : State) :
    exec (decodeWrite word v) s = .next s := by
  rcases reserved_word_cases h with rfl | hrow | hrow
  · rfl
  · rw [Laws.RoundTrip.decodeWrite_60to7C word v hrow]
    rfl
  · rw [Laws.RoundTrip.decodeWrite_80toFC word v hrow]
    rfl

theorem exec_decodeRead_reserved {word : BitVec 6} (h : 0x17 ≤ word.toNat) (s : State) :
    exec (decodeRead word) s = .next (s.answer 0) := by
  rcases reserved_word_cases h with rfl | hrow | hrow
  · rfl
  · rw [Laws.RoundTrip.decodeRead_60to7C word hrow]
    rfl
  · rw [Laws.RoundTrip.decodeRead_80toFC word hrow]
    rfl

/-- Settles O33: reserved reads answer 0, and every ignored write leaves the state itself. -/
theorem reservedAndReadOnlyOffsets : Obligations.ReservedAndReadOnlyOffsets := by
  unfold Obligations.ReservedAndReadOnlyOffsets
  refine ⟨fun s word => ?_, fun s word v => ?_, fun s v i hi => ?_, fun s d v hal hword => ?_⟩
  · exact ⟨readsAs_answer s 0, readsAs_answer s 0, readsAs_answer s 0⟩
  · exact ⟨ignoredBy_next s, ignoredBy_next s, ignoredBy_next s⟩
  · simp only [List.mem_cons, List.not_mem_nil, or_false] at hi
    rcases hi with rfl | rfl | rfl | rfl | rfl | rfl | rfl | rfl | rfl | rfl | rfl | rfl <;> exact ignoredBy_next s
  · rw [decodeBus_aligned hal]
    split
    · rw [exec_decodeWrite_reserved hword]
      exact ignoredBy_next s
    · rw [exec_decodeRead_reserved hword]
      exact readsAs_answer s 0

/-! ### Reads (R67) -/

/-- Every read answers the host and does nothing else. -/
theorem exec_decodeRead (word : BitVec 6) (s : State) : ∃ v, exec (decodeRead word) s = .next (s.answer v) := by
  unfold decodeRead
  split
  case h_25 => split <;> exact ⟨_, rfl⟩
  all_goals exact ⟨_, rfl⟩

/-- Settles O35: an aligned read descriptor decodes to a read, and a read only answers. -/
theorem readsHaveNoSideEffect : Obligations.ReadsHaveNoSideEffect := by
  unfold Obligations.ReadsHaveNoSideEffect
  intro s d v hal hread
  obtain ⟨w, hw⟩ := exec_decodeRead (descWord d) s
  rw [decodeBus_aligned hal, if_neg (by simp [hread])]
  exact ⟨_, hw, s.answer_frame w⟩

/-! ### The engine undisturbed (R72, R192, R259) -/

/-- What a host access can do while a command runs. -/
theorem Effect.of_busy {s t : State} {i : Instr} (run : Effect s i t) (hbusy : s.op ≠ .idle) :
    t = s ∨ (∃ v, t = s.answer v) ∨ (∃ v, t = { s with status := s.status.clear v }) ∨ t = s.raise .busyErr := by
  cases run with
  | nothing => exact .inl rfl
  | answer _ v => exact .inr (.inl ⟨v, rfl⟩)
  | statusClear v => exact .inr (.inr (.inl ⟨v, rfl⟩))
  | dropped => exact .inr (.inr (.inr rfl))
  | command _ _ _ hidle => exact absurd hidle hbusy
  | _ => contradiction

/-- The six sticky bits of STATUS (R222). -/
def stickyBits : List Elem :=
  [.error .cmdErr, .error .cfgErr, .error .rangeErr, .error .busyErr, .error .addrErr, .error .resOvf]

theorem error_mem_stickyBits (e : ErrorCode) : Elem.error e ∈ stickyBits := by
  cases e <;> decide

/-- A STATUS write touches the sticky bits alone (R199). -/
theorem State.statusClear_frame (s : State) (v : Word) :
    UnchangedExcept stickyBits s { s with status := s.status.clear v } := by
  intro e he
  cases e with
  | error e' => exact absurd (error_mem_stickyBits e') he
  | buf | res => exact fun _ => rfl
  | _ => rfl

/-- Settles O50, by the four things a host access can do to a busy machine. -/
theorem hostCannotDisturbTheEngine : Obligations.HostCannotDisturbTheEngine := by
  unfold Obligations.HostCannotDisturbTheEngine
  intro s t i hbusy hexec
  change UnchangedExcept (stickyBits ++ [.hostRead]) s t
  rcases (exec_effect hexec).of_busy hbusy with rfl | ⟨v, rfl⟩ | ⟨v, rfl⟩ | rfl
  · exact UnchangedExcept.refl _ _
  · exact (s.answer_frame v).mono fun _ => List.mem_append_right _
  · exact (s.statusClear_frame v).mono fun _ => List.mem_append_left _
  · refine (s.raise_frame .busyErr).mono fun e he => List.mem_append_left _ ?_
    rw [List.mem_singleton.1 he]
    exact error_mem_stickyBits _

/-- What a command reads is the same in both states (R259): the registers, the capture buffer and the parameters. -/
def SameEngineInputs (s t : State) : Prop :=
  t.bufLen = s.bufLen ∧ t.frameSize = s.frameSize ∧ t.start = s.start ∧ t.count = s.count ∧ t.buf = s.buf ∧
    t.params = s.params

theorem SameEngineInputs.trans {s t u : State} (h₁ : SameEngineInputs s t) (h₂ : SameEngineInputs t u) :
    SameEngineInputs s u := by
  obtain ⟨hlen, hfs, hstart, hcount, hbuf, hparams⟩ := h₁
  rw [SameEngineInputs, ← hlen, ← hfs, ← hstart, ← hcount, ← hbuf, ← hparams]
  exact h₂

theorem SameMachine.sameEngineInputs {s t : State} (h : SameMachine s t) : SameEngineInputs s t := by
  rw [h.eq]
  exact ⟨rfl, rfl, rfl, rfl, rfl, rfl⟩

theorem SameMachine.op_eq {s t : State} (h : SameMachine s t) : t.op = s.op := by
  rw [h.eq]

/-- The engine writes none of what it reads. -/
theorem EngineEffect.sameEngineInputs {s t : State} (run : EngineEffect s t) : SameEngineInputs s t := by
  cases run with
  | takeFrame => simp [SameEngineInputs]
  | _ => exact ⟨rfl, rfl, rfl, rfl, rfl, rfl⟩

/-- A host access to a busy machine writes none of what the engine reads (R72). -/
theorem Effect.sameEngineInputs_of_busy {s t : State} {i : Instr} (run : Effect s i t) (hbusy : s.op ≠ .idle) :
    SameEngineInputs s t := by
  rcases run.of_busy hbusy with rfl | ⟨v, rfl⟩ | ⟨v, rfl⟩ | rfl <;> exact ⟨rfl, rfl, rfl, rfl, rfl, rfl⟩

/-- Settles O49, by the cases of what a step can do: the engine reads only, the reset is excluded, and the lock keeps the
host's accesses off. -/
theorem busyFreezesTheEnginesInputs : Obligations.BusyFreezesTheEnginesInputs := by
  unfold Obligations.BusyFreezesTheEnginesInputs
  intro s t hbusy hreset hstep
  change SameEngineInputs s t
  cases step_effect hstep with
  | nobody hidle => exact absurd hidle hbusy
  | engine _ _ _ same run => exact same.sameEngineInputs.trans run.sameEngineInputs
  | reset s' hturn => exact absurd ⟨s', hturn⟩ hreset
  | instr s' _ _ _ same run =>
    have hbusy' : s'.op ≠ .idle := same.op_eq ▸ hbusy
    exact same.sameEngineInputs.trans (run.sameEngineInputs_of_busy hbusy')

/-! ### Fetching an access (R60, R64, R86) -/

theorem fetchEvent_of_inside {p : Params} {a : BusAccess} (hwidth : a.width = .bits32)
    (hin : inRegisterSpace p a.address = true) :
    fetchEvent p (.access a) = .instr (decodeBus (accessDescriptor p a) a.data) := by
  simp [fetchEvent, hwidth, hin]

theorem fetchEvent_of_outside {p : Params} {a : BusAccess} (hwidth : a.width = .bits32)
    (hout : inRegisterSpace p a.address = false) : fetchEvent p (.access a) = .refused .outsideRegisterSpace := by
  simp [fetchEvent, hwidth, hout]

theorem fetchEvent_of_width {p : Params} {a : BusAccess} (hwidth : a.width ≠ .bits32) :
    fetchEvent p (.access a) = .refused .accessWidth := if_pos hwidth

theorem step_of_refused {s s' : State} {e : HostEvent} {r : Refusal} (hturn : s.turn = .host e s')
    (hfetch : fetchEvent s'.params e = .refused r) : step s = .refused r := by
  simp only [step, hturn, hfetch]

/-- Settles O3: in both cases it is the host's turn, and its access is fetched as the instruction it decodes to. -/
theorem stepRunsTheDecodedAccess : Obligations.StepRunsTheDecodedAccess := by
  unfold Obligations.StepRunsTheDecodedAccess
  refine ⟨fun s a rest hidle hp hwidth hin => ?_, fun s a rest later hbusy hp hs hwidth hin => ?_⟩
  · exact step_of_instr (State.turn_idle_cons hidle hp) (fetchEvent_of_inside hwidth hin)
  · exact step_of_instr (State.turn_busy_host hbusy hp hs) (fetchEvent_of_inside hwidth hin)

/-- Settles O5: the access is refused when it is fetched. -/
theorem accessesOutsideTheSpaceAreRefused : Obligations.AccessesOutsideTheSpaceAreRefused := by
  unfold Obligations.AccessesOutsideTheSpaceAreRefused
  intro s s' a hturn hwidth hout
  exact step_of_refused hturn (fetchEvent_of_outside hwidth hout)

/-- A descriptor with al not 00 is one of the three misaligned rows, and each of them is refused (R64). -/
theorem exec_decodeBus_misaligned {d : Descriptor} (hal : descAl d ≠ 0) (v : Word) (s : State) :
    exec (decodeBus d v) s = .refused .misalignedAccess := by
  have hne : (descAl d).toNat ≠ 0 := fun h0 => hal (BitVec.eq_of_toNat_eq h0)
  unfold decodeBus
  split
  · contradiction
  · rfl
  · rfl
  · rfl

/-- Settles O34: the misaligned rows refuse by their meaning, and another width when it is fetched. -/
theorem otherAccessesAreRefused : Obligations.OtherAccessesAreRefused := by
  unfold Obligations.OtherAccessesAreRefused
  refine ⟨fun s write word v => ⟨rfl, rfl, rfl⟩, fun s s' a hturn hwidth => ?_, fun s d v hal => ?_⟩
  · exact step_of_refused hturn (fetchEvent_of_width hwidth)
  · exact exec_decodeBus_misaligned hal v s

end Sys2Proof.Machine

/-! PROOFS. The encoding (30_encoding): what decodes to what, that decoding and encoding invert each other, and that a
table word placed as the host's next access is what the next step runs. -/
namespace Sys2Proof.Machine
open Sys2Proof

/-! ### Command words (R81, R82, R84) -/

/-- A command word is its three fields (R81). -/
theorem cmdFields_append (w : Word) : cmdOpc w ++ cmdRsv w ++ cmdImm8 w = w := by
  have hhigh : cmdOpc w ++ cmdRsv w = w.extractLsb' 8 24 :=
    BitVec.extractLsb'_append_extractLsb'_eq_extractLsb' (by rfl)
  have hall : w.extractLsb' 8 24 ++ cmdImm8 w = w.extractLsb' 0 32 :=
    BitVec.extractLsb'_append_extractLsb'_eq_extractLsb' (by rfl)
  rw [hhigh, hall, BitVec.extractLsb'_eq_self]

/-- A word without a reserved bit set is its opcode and its operand. -/
theorem eq_append_of_fields {w : Word} {opc : Byte} (hrsv : cmdRsv w = 0) (hopc : (cmdOpc w).toNat = opc.toNat) :
    w = opc ++ (0 : BitVec 16) ++ cmdImm8 w := by
  rw [← hrsv, ← BitVec.eq_of_toNat_eq hopc, cmdFields_append]

theorem encodeCommand_crcByte_fields : ∀ b : Byte,
    encodeCommand (.crcByte b) = (0x02 : Byte) ++ (0 : BitVec 16) ++ b := by
  decide +kernel

/-- A row without an operand is met only by its own word. -/
theorem eq_encodeCommand_of_decodeNoOperand {w : Word} {opc : Byte} {row c : Command}
    (hrow : encodeCommand row = opc ++ (0 : BitVec 16) ++ (0 : Byte)) (hrsv : cmdRsv w = 0)
    (hopc : (cmdOpc w).toNat = opc.toNat) (h : decodeNoOperand w row = .ok c) : w = encodeCommand c := by
  unfold decodeNoOperand at h
  split at h
  · rename_i himm
    cases h
    rw [hrow, ← himm]
    exact eq_append_of_fields hrsv hopc
  · cases h

/-- A word decodes to a command only if it is that command's own word (R82). -/
theorem eq_encodeCommand_of_decodeCommand {w : Word} {c : Command} (h : decodeCommand w = .ok c) :
    w = encodeCommand c := by
  unfold decodeCommand at h
  split at h
  · cases h
  · rename_i hreserved
    have hrsv : cmdRsv w = 0 := not_not.1 hreserved
    split at h
    case h_1 hopc => exact eq_encodeCommand_of_decodeNoOperand (opc := 0x00) rfl hrsv hopc h
    case h_2 hopc => exact eq_encodeCommand_of_decodeNoOperand (opc := 0x01) rfl hrsv hopc h
    case h_3 hopc =>
      cases h
      rw [encodeCommand_crcByte_fields]
      exact eq_append_of_fields (opc := 0x02) hrsv hopc
    case h_4 hopc => exact eq_encodeCommand_of_decodeNoOperand (opc := 0x03) rfl hrsv hopc h
    case h_5 hopc => exact eq_encodeCommand_of_decodeNoOperand (opc := 0x04) rfl hrsv hopc h
    case h_6 hopc => exact eq_encodeCommand_of_decodeNoOperand (opc := 0x05) rfl hrsv hopc h
    case h_7 => cases h

theorem decodeCommand_encodeCommand (c : Command) : decodeCommand (encodeCommand c) = .ok c := by
  cases c with
  | crcByte b => exact Laws.RoundTrip.decodeCommand_crcByte b
  | _ => rfl

/-- Decoding a command word inverts encoding it. -/
theorem decodeCommand_eq_ok_iff {w : Word} {c : Command} : decodeCommand w = .ok c ↔ w = encodeCommand c :=
  ⟨eq_encodeCommand_of_decodeCommand, fun h => h ▸ decodeCommand_encodeCommand c⟩

/-- Settles O9: a command's words are the one `encodeCommand` gives, and those are the listed ones. -/
theorem onlyTheListedWordsAreLegal : Obligations.OnlyTheListedWordsAreLegal := by
  unfold Obligations.OnlyTheListedWordsAreLegal
  intro w c
  rw [decodeCommand_eq_ok_iff]
  cases c <;> simp [encodeCommand]

/-- Settles O10, by evaluation. -/
theorem writtenOutWordsDecode : Obligations.WrittenOutWordsDecode := by
  unfold Obligations.WrittenOutWordsDecode
  decide

/-! ### Instructions and their words (R82, R86) -/

/-- Settles O7, by the rows of the table: the words of a row without a range are fixed up to the data value, and the
others are the round trips of their operand. -/
theorem decodeEncodeAgree : Obligations.DecodeEncodeAgree := by
  unfold Obligations.DecodeEncodeAgree
  intro i hwf
  cases i with
  | crcByte b => exact Laws.RoundTrip.crcByte b hwf
  | rdReserved60to7C word => exact Laws.RoundTrip.rdReserved60to7C word hwf
  | rdReserved80toFC word => exact Laws.RoundTrip.rdReserved80toFC word hwf
  | wrReserved60to7C word v => exact Laws.RoundTrip.wrReserved60to7C word v hwf
  | wrReserved80toFC word v => exact Laws.RoundTrip.wrReserved80toFC word v hwf
  | misaligned01 write word v => exact Laws.RoundTrip.misaligned01 write word v hwf
  | misaligned10 write word v => exact Laws.RoundTrip.misaligned10 write word v hwf
  | misaligned11 write word v => exact Laws.RoundTrip.misaligned11 write word v hwf
  | _ => rfl

/-! ### Bus descriptors (R86) -/

/-- A descriptor is made of its three fields. -/
theorem descriptor_fields : ∀ d : Descriptor, descriptor (descWrite d) (descWord d) (descAl d) = d := by
  decide +kernel

theorem dataFits_busData (d : Descriptor) (v : Word) : dataFits (descWrite d) (busData d v) = true := by
  cases hw : descWrite d <;> simp [dataFits, busData, hw]

theorem decodeRead_roundTrips : ∀ word : BitVec 6,
    (decodeRead word).wellFormed = true ∧ encode (decodeRead word) = encodeRd word := by
  decide +kernel

theorem decodeWrite_roundTrips (word : BitVec 6) (v : Word) :
    (decodeWrite word v).wellFormed = true ∧ encode (decodeWrite word v) = encodeWr word v := by
  rcases Nat.lt_or_ge word.toNat 0x17 with hregister | hreserved
  · obtain ⟨n, hn, rfl⟩ : ∃ n < 0x17, word = BitVec.ofNat 6 n := ⟨_, hregister, by simp⟩
    interval_cases n <;> exact ⟨rfl, rfl⟩
  · rcases reserved_word_cases hreserved with rfl | hrow | hrow
    · exact ⟨rfl, rfl⟩
    · rw [Laws.RoundTrip.decodeWrite_60to7C word v hrow]
      exact ⟨hrow, rfl⟩
    · rw [Laws.RoundTrip.decodeWrite_80toFC word v hrow]
      exact ⟨hrow, rfl⟩

theorem decodeBus_al01 {d : Descriptor} (h : descAl d = 1) (v : Word) :
    decodeBus d v = .misaligned01 (descWrite d) (descWord d) (busData d v) := by
  simp [decodeBus, h]

theorem decodeBus_al10 {d : Descriptor} (h : descAl d = 2) (v : Word) :
    decodeBus d v = .misaligned10 (descWrite d) (descWord d) (busData d v) := by
  simp [decodeBus, h]

theorem decodeBus_al11 {d : Descriptor} (h : descAl d = 3) (v : Word) :
    decodeBus d v = .misaligned11 (descWrite d) (descWord d) (busData d v) := by
  simp [decodeBus, h]

theorem decodeBus_roundTrips_of_aligned {d : Descriptor} (hal : descAl d = 0) (v : Word) :
    (decodeBus d v).wellFormed = true ∧ encode (decodeBus d v) = .bus d (busData d v) := by
  have hd := descriptor_fields d
  rw [decodeBus_aligned hal]
  split
  · rename_i hwrite
    have hbus : encodeWr (descWord d) v = .bus d (busData d v) := by
      rw [busData, if_pos hwrite, encodeWr, ← hwrite, ← hal, hd]
    exact hbus ▸ decodeWrite_roundTrips (descWord d) v
  · rename_i hread
    have hbus : encodeRd (descWord d) = .bus d (busData d v) := by
      rw [busData, if_neg hread, encodeRd, ← Bool.eq_false_of_not_eq_true hread, ← hal, hd]
    exact hbus ▸ decodeRead_roundTrips (descWord d)

/-- Settles O8: an aligned access is a read or a write of its offset, which encodes back; a misaligned one holds the
descriptor's own fields. -/
theorem everyDescriptorRoundTrips : Obligations.EveryDescriptorRoundTrips := by
  unfold Obligations.EveryDescriptorRoundTrips
  intro d v
  have hcases : ∀ al : BitVec 2, al = 0 ∨ al = 1 ∨ al = 2 ∨ al = 3 := by decide
  have hfits := dataFits_busData d v
  have hbus {al : BitVec 2} (hal : descAl d = al) (data : Word) :
      Encoded.bus (descriptor (descWrite d) (descWord d) al) data = .bus d data := by
    rw [← hal, descriptor_fields]
  rcases hcases (descAl d) with hal | hal | hal | hal
  · exact decodeBus_roundTrips_of_aligned hal v
  · rw [decodeBus_al01 hal]
    exact ⟨hfits, hbus hal _⟩
  · rw [decodeBus_al10 hal]
    exact ⟨hfits, hbus hal _⟩
  · rw [decodeBus_al11 hal]
    exact ⟨hfits, hbus hal _⟩

/-! ### A table word as the host's next access (R86, R88) -/

/-- The access that carries an instruction's words runs the instruction: a command word is the data of WR CMD (R88). -/
theorem step_issueNext_encodedAccess {e : Encoded} {i : Instr} (h : decode e = .ok i) (s : State) :
    step (s.issueNext (.access (encodedAccess s.params e))) = exec i s := by
  cases e with
  | bus d v =>
    cases h
    exact step_of_instr (s.turn_issueNext _) (fetchEvent_descriptorAccess s.params d v)
  | cmdw w =>
    cases hc : decodeCommand w with
    | error r => simp [decode, hc, Except.map] at h
    | ok c =>
      obtain rfl : commandInstr c = i := by simpa [decode, hc, Except.map] using h
      calc step (s.issueNext (.access (encodedAccess s.params (.cmdw w))))
          = exec (.wrCmd w) s := step_of_instr (s.turn_issueNext _) (fetchEvent_descriptorAccess s.params 0x100 w)
        _ = exec (commandInstr c) s := exec_wrCmd_of_decode hc s

theorem tableWords_of_decodeTableWord {nbits w : Nat} {i : Instr} (h : decodeTableWord nbits w = some i) :
    ∃ e, tableWords nbits w = some e ∧ decode e = .ok i := by
  unfold decodeTableWord decodeTable at h
  split at h
  · rename_i e he
    refine ⟨e, he, ?_⟩
    cases hd : decode e <;> simp_all [Except.toOption]
  · cases h

/-- Settles O6: the word's access is placed first, and the step that takes it runs what the word decodes to. -/
theorem tableWordRunsNext : Obligations.TableWordRunsNext := by
  unfold Obligations.TableWordRunsNext
  intro s nbits w i h
  obtain ⟨e, hwords, hdecode⟩ := tableWords_of_decodeTableWord h
  simpa only [State.withFetchWord, hwords] using step_issueNext_encodedAccess hdecode s

end Sys2Proof.Machine

/-! PROOFS. The checksum engine (40_crc): the checksum functions, the three CRC commands and the CRC and TBL registers,
the engine's run of a CRC_RANGE, and that no step faults. -/
namespace Sys2Proof.Machine
open Sys2Proof

/-! ### The checksum functions (R100, R102, R103) -/

/-- Settles O57: the entries by evaluation, linearity from that of the eight rounds. -/
theorem tableContents : Obligations.TableContents := by
  unfold Obligations.TableContents
  refine ⟨by decide, fun i j => ?_⟩
  calc tbl (i ^^^ j) = crcRounds 8 (i.setWidth 32 ^^^ j.setWidth 32) := by rw [tbl, BitVec.setWidth_xor]
    _ = tbl i ^^^ tbl j := crcRounds_xor 8 _ _

theorem crcRound_of_even {c : Word} (h : c.getLsbD 0 = false) : crcRound c = c >>> 1 :=
  if_neg (Bool.eq_false_iff.1 h)

/-- A round that shifts out a 0 is a shift, so `n` rounds of a word whose low `n` bits are 0 shift it by `n`. -/
theorem crcRounds_of_low_zero {n : Nat} {c : Word} (h : ∀ k < n, c.getLsbD k = false) : crcRounds n c = c >>> n := by
  induction n generalizing c with
  | zero => simp [crcRounds]
  | succ n ih =>
    have hshifted : ∀ k < n, (c >>> 1).getLsbD k = false := fun k hk => by
      rw [BitVec.getLsbD_ushiftRight]
      exact h (1 + k) (by omega)
    rw [crcRounds, crcRound_of_even (h 0 n.succ_pos), ih hshifted, ← BitVec.shiftRight_add, Nat.add_comm]

/-- Settles O58: the rounds are linear, so they split into those of the low byte, which is the table's entry, and
those of the three bytes above it, which are a shift. -/
theorem tableStepIsBitSerial : Obligations.TableStepIsBitSerial := by
  unfold Obligations.TableStepIsBitSerial
  intro c b
  generalize hw : c ^^^ b.setWidth 32 = w
  have hlow : ∀ k < 8, ((w.setWidth 8).setWidth 32 ^^^ w).getLsbD k = false := fun k hk => by
    have hk32 : k < 32 := by omega
    simp [hk, hk32]
  have hhigh : ((w.setWidth 8).setWidth 32 ^^^ w) >>> 8 = c >>> 8 := by
    subst hw
    ext k hk
    simp
  calc crcStep c b = tbl (w.setWidth 8) ^^^ c >>> 8 := by rw [crcStep, hw]
    _ = crcRounds 8 ((w.setWidth 8).setWidth 32) ^^^ crcRounds 8 ((w.setWidth 8).setWidth 32 ^^^ w) := by
      rw [crcRounds_of_low_zero hlow, hhigh, tbl]
    _ = crcRounds 8 w := by rw [← crcRounds_xor, ← BitVec.xor_assoc, BitVec.xor_self, BitVec.zero_xor]

theorem crcUpdate_concat (bytes : List Byte) (b : Byte) (seed : Word) :
    crcUpdate (bytes ++ [b]) seed = crcStep (crcUpdate bytes seed) b := crcUpdate_append bytes [b] seed

/-- Settles O59: one more byte is one more CrcStep, whose formula R102 writes out. -/
theorem checksumUpdate : Obligations.ChecksumUpdate := by
  unfold Obligations.ChecksumUpdate
  exact ⟨crcUpdate_nil, crcUpdate_concat⟩

/-! ### Frames of the engine's registers -/

/-- An element of the frame's list that is the same in both states can be struck from the list. -/
theorem UnchangedExcept.strike {s t : State} {l l' : List Elem} (h : UnchangedExcept l s t)
    (hsame : ∀ e ∈ l, e ∉ l' → e.Same s t) : UnchangedExcept l' s t := fun e he =>
  if hl : e ∈ l then hsame e hl he else h e hl

/-- The elements the CRC operations write, DONE apart. -/
theorem State.withCrcRegisters_frame (s : State) (op : EngineOp) (crc cursor : Word) (idx : Byte) :
    UnchangedExcept [.op, .crc, .cursor, .tblIdx] s
      { s with op := op, crc := crc, cursor := cursor, tblIdx := idx } := by
  intro e he
  cases e with
  | op | crc | cursor | tblIdx => exact absurd (by decide) he
  | buf | res => exact fun _ => rfl
  | _ => rfl

theorem State.withCrc_frame (s : State) (v : Word) : UnchangedExcept [.crc] s { s with crc := v } :=
  (s.withCrcRegisters_frame s.op v s.cursor s.tblIdx).strike (by simp [Elem.Same])

theorem State.withTblIdx_frame (s : State) (i : Byte) : UnchangedExcept [.tblIdx] s { s with tblIdx := i } :=
  (s.withCrcRegisters_frame s.op s.crc s.cursor i).strike (by simp [Elem.Same])

/-! ### Commands (R88, R192, R201) -/

theorem exec_commandInstr_idle {s : State} (h : s.op = .idle) (c : Command) :
    exec (commandInstr c) s = .next (s.beginCommand.runCommand c) := by
  rw [exec_commandInstr, State.issue, State.unlessBusy_idle h]

theorem droppedAsBusy_commandInstr {s : State} (h : s.op ≠ .idle) (c : Command) :
    DroppedAsBusy s (exec (commandInstr c) s) := by
  rw [exec_commandInstr]
  exact droppedAsBusy_unlessBusy h _

/-- A CMD write of an illegal word (R224). -/
theorem refusedWith_cmdErr {s : State} {v : Word} {r : DecodeRefusal} (h : s.op = .idle)
    (hillegal : decodeCommand v = .error r) : RefusedWith .cmdErr s (exec (.wrCmd v) s) := by
  have hexec : exec (.wrCmd v) s = .next (s.beginCommand.raise .cmdErr) := by
    simp [exec, execWrCmd, State.issueWord, State.unlessBusy_idle h, hillegal]
  exact hexec ▸ refusedWith_raise s .cmdErr

theorem decodeCommand_of_reserved {w : Word} (h : cmdRsv w ≠ 0) : decodeCommand w = .error .reservedBitsSet :=
  if_pos h

theorem cmdOpc_encodeCommand_crcByte : ∀ b : Byte, cmdOpc (encodeCommand (.crcByte b)) = 0x02 := by
  decide +kernel

/-- Only CRC_BYTE has an operand: any other opcode with a bit below it set is illegal (R82, R84). -/
theorem decodeCommand_of_operand {w : Word} (hopc : cmdOpc w ≠ 0x02) (hoperand : w.extractLsb' 0 24 ≠ 0) :
    ∃ r, decodeCommand w = .error r := by
  cases hdecode : decodeCommand w with
  | error r => exact ⟨r, rfl⟩
  | ok c =>
    rw [eq_encodeCommand_of_decodeCommand hdecode] at hopc hoperand
    cases c with
    | crcByte b => exact absurd (cmdOpc_encodeCommand_crcByte b) hopc
    | _ => exact absurd rfl hoperand

/-! ### CRC_INIT and CRC_BYTE (R107, R108) -/

/-- A command that completes at once with a new accumulator. -/
theorem State.completeWithCrc_frame (s : State) (v : Word) :
    UnchangedExcept [.crc, .done] s { s.beginCommand.complete with crc := v } :=
  ((s.beginCommand_frame.trans s.beginCommand.complete_frame).trans (State.withCrc_frame _ v)).mono (by decide)

/-- Settles O15: an idle machine runs the command, a busy one drops it, and an operand makes the word illegal. -/
theorem crcInitLoadsSeedOne : Obligations.CrcInitLoadsSeedOne := by
  unfold Obligations.CrcInitLoadsSeedOne
  refine ⟨fun s hidle => ?_, fun s hbusy => ?_, fun s v hidle hopc hoperand => ?_, rfl⟩
  · exact ⟨_, exec_commandInstr_idle hidle .crcInit, rfl, rfl, s.completeWithCrc_frame _⟩
  · exact droppedAsBusy_commandInstr hbusy .crcInit
  · obtain ⟨r, hillegal⟩ := decodeCommand_of_operand (w := v) (by simp [cmdOpc, hopc]) hoperand
    exact refusedWith_cmdErr hidle hillegal

/-- Settles O16: as O15, but that bits 7:0 are the byte and only bits 23:8 make the word illegal. -/
theorem crcByteFeedsOneByte : Obligations.CrcByteFeedsOneByte := by
  unfold Obligations.CrcByteFeedsOneByte
  refine ⟨fun s b hidle => ?_, fun s b hbusy => ?_, fun s v hidle _ hreserved => ?_, fun b => ?_⟩
  · exact ⟨_, exec_commandInstr_idle hidle (.crcByte b), rfl, rfl, s.completeWithCrc_frame _⟩
  · exact droppedAsBusy_commandInstr hbusy (.crcByte b)
  · exact refusedWith_cmdErr hidle (decodeCommand_of_reserved hreserved)
  · exact Laws.RoundTrip.crcByte b rfl

theorem runInstrs_crcByte_cons {s : State} (hidle : s.op = .idle) (b : Byte) (bytes : List Byte) :
    runInstrs ((b :: bytes).map .crcByte) s = runInstrs (bytes.map .crcByte) (s.beginCommand.runCrcByte b) := by
  have hfirst : exec (.crcByte b) s = .next (s.beginCommand.runCrcByte b) := exec_commandInstr_idle hidle (.crcByte b)
  simp only [List.map_cons, runInstrs, hfirst]

/-- Each CRC_BYTE leaves the machine idle with DONE set, so a sequence of them differs from one in the accumulator
only. -/
theorem runInstrs_crcBytes {s : State} (hidle : s.op = .idle) (b : Byte) (bytes : List Byte) :
    runInstrs ((b :: bytes).map .crcByte) s =
      .next { s.beginCommand.complete with crc := crcUpdate (b :: bytes) s.crc } := by
  induction bytes generalizing s b with
  | nil => exact runInstrs_crcByte_cons hidle b []
  | cons c rest ih =>
    have hidle' : (s.beginCommand.runCrcByte b).op = .idle := hidle
    exact (runInstrs_crcByte_cons hidle b (c :: rest)).trans (ih hidle' c)

/-- Settles O60, from what a sequence of CRC_BYTEs leaves. -/
theorem crcBytesStreamTheChecksum : Obligations.CrcBytesStreamTheChecksum := by
  unfold Obligations.CrcBytesStreamTheChecksum
  intro bytes s hidle hne
  obtain ⟨b, rest, rfl⟩ := List.exists_cons_of_ne_nil hne
  exact ⟨_, runInstrs_crcBytes hidle b rest, rfl, rfl, s.completeWithCrc_frame _⟩

/-! ### The registers CRC, TBL_IDX and TBL_DATA (R101, R105, R106, R111) -/

/-- Settles O22: a read answers, and a write is under the lock. -/
theorem crcRegisterReadAndWrite : Obligations.CrcRegisterReadAndWrite := by
  unfold Obligations.CrcRegisterReadAndWrite
  refine ⟨fun s => readsAs_answer s s.crc, fun s v hidle => ?_, fun s v hbusy => ?_, fun v => ⟨rfl, rfl⟩⟩
  · exact ⟨_, congrArg Host.Outcome.next (State.unlessBusy_idle hidle _), rfl, s.withCrc_frame v⟩
  · exact droppedAsBusy_unlessBusy hbusy _

/-- Settles O23: as O22 for TBL_IDX; TBL_DATA is read-only. -/
theorem tableReadPort : Obligations.TableReadPort := by
  unfold Obligations.TableReadPort
  refine ⟨fun s => readsAs_answer s _, fun s => readsAs_answer s _, fun s v hidle => ?_, fun s v hbusy => ?_,
    fun s v => ignoredBy_next s, fun v => ⟨rfl, rfl, rfl, rfl⟩⟩
  · have hlow : v.setWidth 8 = v.extractLsb' 0 8 := BitVec.setWidth_eq_extractLsb' (by decide)
    exact ⟨_, congrArg Host.Outcome.next (State.unlessBusy_idle hidle _), hlow, s.withTblIdx_frame _⟩
  · exact droppedAsBusy_unlessBusy hbusy _

/-! ### CRC_RANGE, its issue and its steps (R109, R110) -/

/-- The state the issue of a legal CRC_RANGE leaves (R109). -/
def State.rangeIssued (s : State) : State := { s.beginCommand with cursor := s.start, op := .range }

theorem exec_crcRange_ok {s : State} (hidle : s.op = .idle) (hlen : s.bufLen.toNat ≤ s.params.bufCap.toNat)
    (hend : s.rangeEnd ≤ s.bufLen.toNat) : exec .crcRange s = .next s.rangeIssued :=
  (exec_commandInstr_idle hidle .crcRange).trans (congrArg _ (State.runCrcRange_ok (s := s.beginCommand) hlen hend))

theorem State.rangeIssued_frame (s : State) : UnchangedExcept [.op, .cursor, .done] s s.rangeIssued :=
  (s.beginCommand_frame.trans (s.beginCommand.withCrcRegisters_frame .range s.crc s.start s.tblIdx)).strike
    (by simp [Elem.Same])

/-- Settles O17, by the three outcomes of the issue's checks. -/
theorem crcRangeIssueChecksItsWindow : Obligations.CrcRangeIssueChecksItsWindow := by
  unfold Obligations.CrcRangeIssueChecksItsWindow
  refine ⟨rfl, fun s hidle => ?_⟩
  have hexec : exec .crcRange s = .next s.beginCommand.runCrcRange := exec_commandInstr_idle hidle .crcRange
  refine ⟨fun hcap => ?_, fun hlen hend => ?_, fun hlen hend => ?_⟩
  · rw [hexec, State.runCrcRange_cfgErr (s := s.beginCommand) hcap]
    exact refusedWith_raise s .cfgErr
  · rw [hexec, State.runCrcRange_rangeErr (s := s.beginCommand) hlen hend]
    exact refusedWith_raise s .rangeErr
  · exact ⟨_, exec_crcRange_ok hidle hlen hend, rfl, rfl, rfl, s.rangeIssued_frame.mono (by decide)⟩

theorem engineStep_of_range {s : State} (hop : s.op = .range) : engineStep s = rangeStep s := by
  simp only [engineStep, hop]

theorem rangeStep_end {s : State} (hend : s.cursor.toNat = s.rangeEnd) : rangeStep s = .next s.finish := if_pos hend

theorem rangeStep_byte {s : State} (hend : s.cursor.toNat ≠ s.rangeEnd)
    (hcap : s.cursor.toNat < s.params.bufCap.toNat) :
    rangeStep s = .next { s with crc := crcStep s.crc (s.bufByte s.cursor.toNat), cursor := s.cursor + 1 } :=
  (if_neg hend).trans (if_pos hcap)

theorem State.finish_frame (s : State) : UnchangedExcept [.op, .done] s s.finish :=
  (s.complete_frame.trans (s.complete.withCrcRegisters_frame .idle s.crc s.cursor s.tblIdx)).strike
    (by simp [Elem.Same])

/-- Settles O37, by the two branches of the step; a cursor below BUF_CAP advances without wrapping. -/
theorem rangeStepFeedsOneByte : Obligations.RangeStepFeedsOneByte := by
  unfold Obligations.RangeStepFeedsOneByte
  refine ⟨fun s hop hend => ?_, fun s hop hend hcap => ?_⟩
  · exact ⟨_, (engineStep_of_range hop).trans (rangeStep_end hend), rfl, rfl, s.finish_frame⟩
  · have hnext : (s.cursor + 1).toNat = s.cursor.toNat + 1 :=
      BitVec.toNat_add_of_lt (by have := s.params.bufCap.isLt; simp; omega)
    exact ⟨_, (engineStep_of_range hop).trans (rangeStep_byte hend hcap), rfl, hnext,
      (s.withCrcRegisters_frame s.op _ _ s.tblIdx).strike (by simp [Elem.Same])⟩

/-! ### The run of a CRC_RANGE (R103, R110, R260) -/

/-- A run of `m` steps that answers goes on from what it answered. -/
theorem run_add_of_run {s t : State} {m : Nat} (h : Host.Core.run Sys2Proof.core m s = .next t) (n : Nat) :
    Host.Core.run Sys2Proof.core (m + n) s = Host.Core.run Sys2Proof.core n t := by
  induction m generalizing s with
  | zero => cases h; rw [Nat.zero_add]
  | succ m ih =>
    cases hstep : Sys2Proof.core.step s with
    | next u =>
      rw [run_succ_of_step hstep] at h
      rw [Nat.add_right_comm, run_succ_of_step hstep, ih h]
    | fault r => simp [Host.Core.run, hstep] at h
    | refused r => simp [Host.Core.run, hstep] at h

/-- The state a range under way reaches by `k` steps, one byte each. -/
def State.rangeAfter (s : State) (k : Nat) : State :=
  { s with crc := crcUpdate (s.memBytes s.cursor.toNat k) s.crc, cursor := s.cursor + BitVec.ofNat 32 k }

theorem State.rangeAfter_zero (s : State) : s.rangeAfter 0 = s := by
  simp [State.rangeAfter, State.memBytes_zero]

theorem State.rangeAfter_frame (s : State) (k : Nat) : UnchangedExcept [.crc, .cursor] s (s.rangeAfter k) :=
  (s.withCrcRegisters_frame s.op _ _ s.tblIdx).strike (by simp [Elem.Same])

section
/-! A CRC_RANGE under way, its window legal and no host event to come. -/
variable {s : State} (hop : s.op = .range) (hp : s.pending = []) (hlen : s.bufLen.toNat ≤ s.params.bufCap.toNat)
  (hend : s.rangeEnd ≤ s.bufLen.toNat)

include hend in
theorem State.rangeAfter_cursor {k : Nat} (hk : s.cursor.toNat + k ≤ s.rangeEnd) :
    (s.rangeAfter k).cursor.toNat = s.cursor.toNat + k := by
  have hlt := s.bufLen.isLt
  have hk32 : (BitVec.ofNat 32 k).toNat = k := Nat.mod_eq_of_lt (by omega)
  rw [State.rangeAfter, BitVec.toNat_add_of_lt (by omega), hk32]

include hop hp in
/-- With nothing pending the engine moves. -/
theorem step_rangeAfter (k : Nat) : step (s.rangeAfter k) = rangeStep (s.rangeAfter k) := by
  have hop' : (s.rangeAfter k).op = .range := hop
  have hturn : (s.rangeAfter k).turn = .engine (s.rangeAfter k) := State.turn_busy_nil (by simp [hop']) hp
  rw [step_of_turn_engine hturn, engineStep_of_range hop']

include hop hp hlen hend

theorem step_rangeAfter_byte {k : Nat} (hk : s.cursor.toNat + k < s.rangeEnd) :
    step (s.rangeAfter k) = .next (s.rangeAfter (k + 1)) := by
  have hcursor : (s.rangeAfter k).cursor.toNat = s.cursor.toNat + k := State.rangeAfter_cursor hend hk.le
  have hcap : s.cursor.toNat + k < s.params.bufCap.toNat := by omega
  rw [step_rangeAfter hop hp, rangeStep_byte (hcursor ▸ hk.ne) (hcursor ▸ hcap), hcursor]
  simp only [State.rangeAfter, State.memBytes_succ, crcUpdate_concat, BitVec.add_assoc, BitVec.ofNat_add]
  rfl

theorem run_range {k : Nat} (hk : s.cursor.toNat + k ≤ s.rangeEnd) :
    Host.Core.run Sys2Proof.core k s = .next (s.rangeAfter k) := by
  induction k with
  | zero => rw [s.rangeAfter_zero]; rfl
  | succ k ih =>
    rw [run_add_of_run (ih (by omega)), run_succ_of_step (step_rangeAfter_byte hop hp hlen hend hk)]
    rfl

/-- The step after the last byte ends the range. -/
theorem run_range_end {n : Nat} (hn : s.cursor.toNat + n = s.rangeEnd) :
    Host.Core.run Sys2Proof.core (n + 1) s = .next (s.rangeAfter n).finish := by
  have hlast : step (s.rangeAfter n) = .next (s.rangeAfter n).finish := by
    rw [step_rangeAfter hop hp, rangeStep_end ((State.rangeAfter_cursor hend hn.le).trans hn)]
  rw [run_add_of_run (run_range hop hp hlen hend hn.le), run_succ_of_step hlast]
  rfl

end

/-- Settles O40: after `k` bytes the run is at `rangeAfter k`, and one step past the last byte finishes it. -/
theorem rangeComputesTheChecksum : Obligations.RangeComputesTheChecksum := by
  unfold Obligations.RangeComputesTheChecksum
  intro s hidle hp hlen hend
  have hframe := (s.rangeIssued_frame.trans (s.rangeIssued.rangeAfter_frame s.count.toNat)).trans
    (State.finish_frame _)
  refine ⟨s.rangeIssued, (s.rangeIssued.rangeAfter s.count.toNat).finish, exec_crcRange_ok hidle hlen hend,
    run_range_end (s := s.rangeIssued) rfl hp hlen hend rfl, fun k u hk hrun => ?_, rfl, rfl,
    State.rangeAfter_cursor (s := s.rangeIssued) hend le_rfl, rfl, hframe.strike (by simp [Elem.Same, hidle])⟩
  have hwindow : s.rangeIssued.cursor.toNat + k ≤ s.rangeIssued.rangeEnd := Nat.add_le_add_left hk _
  have hrange := run_range (s := s.rangeIssued) rfl hp hlen hend hwindow
  cases hrange.symm.trans hrun
  rfl

/-! ### No step faults (R61, R110, R161) -/

/-- A range inside its window has a byte to read until it ends, and a scan's checked configuration is in its domain. -/
theorem State.Inv.engineStep_answers {s : State} (h : s.Inv) : ∃ t, engineStep s = .next t := by
  cases hop : s.op with
  | idle => exact ⟨s, by simp only [engineStep, hop]⟩
  | range =>
    rw [engineStep_of_range hop]
    obtain ⟨hlen, -, hcursor, hlast⟩ := h.range_window hop
    by_cases hend : s.cursor.toNat = s.rangeEnd
    · exact ⟨_, rangeStep_end hend⟩
    · exact ⟨_, rangeStep_byte hend (by omega)⟩
  | scan =>
    have hscan : engineStep s = scanStep s := by simp only [engineStep, hop]
    rw [hscan]
    obtain ⟨hlen, hfs⟩ := h.scan_config hop
    rcases Nat.lt_or_ge s.bufLen.toNat (s.cursor.toNat + s.frameSize.toNat) with hend | hin
    · exact ⟨_, scanStep_end hend⟩
    · rw [scanStep_inside hlen hfs hin]
      split
      · exact ⟨_, rfl⟩
      · split <;> exact ⟨_, rfl⟩

/-- No instruction faults: a misaligned access is refused, and every other answers. -/
theorem exec_answers_or_refuses (i : Instr) (s : State) :
    (∃ t, exec i s = .next t) ∨ ∃ r, exec i s = .refused r := by
  cases i with
  | misaligned01 | misaligned10 | misaligned11 => exact .inr ⟨_, rfl⟩
  | _ => exact .inl ⟨_, rfl⟩

theorem fetchEvent_access_ne_reset (p : Params) (a : BusAccess) : fetchEvent p (.access a) ≠ .reset := by
  by_cases hwidth : a.width = .bits32
  · cases hin : inRegisterSpace p a.address with
    | true => simp [fetchEvent_of_inside hwidth hin]
    | false => simp [fetchEvent_of_outside hwidth hin]
  · simp [fetchEvent_of_width hwidth]

/-- Settles O45, by whose turn it is and what the host's event is. -/
theorem noStepFaults : Obligations.NoStepFaults := by
  unfold Obligations.NoStepFaults
  intro s hinv
  cases hturn : s.turn with
  | nobody => exact .inl ⟨s, step_of_turn_nobody hturn⟩
  | engine s' =>
    obtain ⟨-, hsame⟩ := State.turn_engine hturn
    rw [step_of_turn_engine hturn]
    exact .inl (hsame.inv hinv).engineStep_answers
  | host e s' =>
    cases e with
    | reset => exact .inl ⟨s'.applyReset, by simp only [step, hturn, fetchEvent]⟩
    | access a =>
      cases hfetch : fetchEvent s'.params (.access a) with
      | reset => exact absurd hfetch (fetchEvent_access_ne_reset _ a)
      | refused r => exact .inr ⟨r, step_of_refused hturn hfetch, a, s', rfl⟩
      | instr i =>
        rw [step_of_instr hturn hfetch]
        rcases exec_answers_or_refuses i s' with hnext | ⟨r, hr⟩
        · exact .inl hnext
        · exact .inr ⟨r, hr, a, s', rfl⟩

end Sys2Proof.Machine

/-! PROOFS. FRAME_CHECK (41_frame R131 to R136): what it puts into the CHK registers, that a scan step at the same
offset classifies the candidate the same way, and that no byte outside the window is read. -/
namespace Sys2Proof.Machine
open Sys2Proof

/-! ### The classification of a candidate (R134) -/

/-- The VALID bit of CHK_RESULT (R37). -/
theorem State.classBits_getLsbD_valid (s : State) (a fs : Nat) :
    (s.classBits a fs).getLsbD 2 = (s.hdrMatch a && s.crcMatch a fs) := by
  unfold State.classBits
  cases s.hdrMatch a <;> cases s.crcMatch a fs <;> rfl

/-- CHK_RESULT as the word a read of it returns (R37, R136). -/
theorem State.classBits_setWidth (s : State) (a fs : Nat) :
    (s.classBits a fs).setWidth 32 =
      bitWord (s.hdrMatch a && s.crcMatch a fs) <<< 2 ||| bitWord (s.crcMatch a fs) <<< 1 |||
        bitWord (s.hdrMatch a) := by
  unfold State.classBits
  cases s.hdrMatch a <;> cases s.crcMatch a fs <;> rfl

section
/-! Two states that show the same bytes in the window of a frame of at least 60 bytes at `a`. -/
variable {s t : State} {a fs : Nat} (hfs : 60 ≤ fs) (h : ∀ b, a ≤ b → b < a + fs → s.bufByte b = t.bufByte b)
include hfs h

/-- The stored checksum is the window's last four bytes (R132). -/
theorem State.storedCrc_eq : s.storedCrc a fs = t.storedCrc a fs :=
  State.memRead_eq (a := a + fs - 4) fun b hlow hhigh => h b (by omega) (by omega)

/-- The counter ends at byte 60 of the window (R133). -/
theorem State.counterAt_eq : s.counterAt a = t.counterAt a :=
  State.memRead_eq (a := a + 56) fun b hlow hhigh => h b (by omega) (by omega)

theorem State.crcMatch_eq : s.crcMatch a fs = t.crcMatch a fs := by
  simp only [State.crcMatch, State.frameCrc_eq h, State.storedCrc_eq hfs h]

theorem State.classBits_eq : s.classBits a fs = t.classBits a fs := by
  have hhdr : s.hdrMatch a = t.hdrMatch a := State.hdrMatch_eq fun b hlow hhigh => h b hlow (by omega)
  simp only [State.classBits, hhdr, State.crcMatch_eq hfs h]

end

/-! ### FRAME_CHECK and the CHK registers (R135, R136) -/

/-- The state a FRAME_CHECK of a legal window leaves (R135). -/
def State.frameChecked (s : State) : State := s.beginCommand.recordCheck.complete

theorem State.frameChecked_chkResult (s : State) :
    s.frameChecked.chkResult = s.classBits s.start.toNat s.frameSize.toNat := rfl

theorem State.frameChecked_chkComputed (s : State) :
    s.frameChecked.chkComputed = s.frameCrc s.start.toNat s.frameSize.toNat := rfl

theorem State.frameChecked_chkStored (s : State) :
    s.frameChecked.chkStored = s.storedCrc s.start.toNat s.frameSize.toNat := rfl

theorem State.frameChecked_chkCounter (s : State) : s.frameChecked.chkCounter = s.counterAt s.start.toNat := rfl

theorem State.recordCheck_frame (s : State) :
    UnchangedExcept [.chkResult, .chkComputed, .chkStored, .chkCounter] s s.recordCheck := by
  intro e he
  cases e with
  | chkResult | chkComputed | chkStored | chkCounter => exact absurd (by decide) he
  | buf | res => exact fun _ => rfl
  | _ => rfl

theorem State.frameChecked_frame (s : State) :
    UnchangedExcept [.chkResult, .chkComputed, .chkStored, .chkCounter, .done] s s.frameChecked :=
  ((s.beginCommand_frame.trans s.beginCommand.recordCheck_frame).trans (State.complete_frame _)).mono (by decide)

theorem exec_frameCheck_ok {s : State} (hidle : s.op = .idle) (hlen : s.bufLen.toNat ≤ s.params.bufCap.toNat)
    (hfs : 60 ≤ s.frameSize.toNat) (hend : s.frameEnd ≤ s.bufLen.toNat) :
    exec .frameCheck s = .next s.frameChecked :=
  (exec_commandInstr_idle hidle .frameCheck).trans
    (congrArg _ (State.runFrameCheck_ok (s := s.beginCommand) hlen hfs hend))

/-- Settles O18, by the three outcomes of the issue's checks; a busy machine drops the command, and an operand makes the
word illegal. -/
theorem frameCheckClassifies : Obligations.FrameCheckClassifies := by
  unfold Obligations.FrameCheckClassifies
  refine ⟨fun s hidle => ?_, fun s hbusy => ?_, fun s v hidle hopc hoperand => ?_, rfl⟩
  · have hexec : exec .frameCheck s = .next s.beginCommand.runFrameCheck := exec_commandInstr_idle hidle .frameCheck
    refine ⟨fun hconfig => ?_, fun hlen hfs hend => ?_, fun hlen hfs hend => ?_⟩
    · rw [hexec, State.runFrameCheck_cfgErr (s := s.beginCommand) hconfig]
      exact refusedWith_raise s .cfgErr
    · rw [hexec, State.runFrameCheck_rangeErr (s := s.beginCommand) hlen hfs hend]
      exact refusedWith_raise s .rangeErr
    · exact ⟨_, exec_frameCheck_ok hidle hlen hfs hend, s.classBits_setWidth _ _, rfl, rfl, rfl, rfl,
        s.frameChecked_frame⟩
  · exact droppedAsBusy_commandInstr hbusy .frameCheck
  · obtain ⟨r, hillegal⟩ := decodeCommand_of_operand (w := v) (by simp [cmdOpc, hopc]) hoperand
    exact refusedWith_cmdErr hidle hillegal

/-- Settles O31: each read answers its register, and the four are read-only. -/
theorem checkResultsRead : Obligations.CheckResultsRead := by
  unfold Obligations.CheckResultsRead
  refine ⟨fun s => ?_, fun s v => ?_, fun v => ⟨rfl, rfl, rfl, rfl⟩⟩
  · exact ⟨readsAs_answer s _, readsAs_answer s _, readsAs_answer s _, readsAs_answer s _⟩
  · exact ⟨ignoredBy_next s, ignoredBy_next s, ignoredBy_next s, ignoredBy_next s⟩

/-- Settles O55: both states run the check, and what it records agrees where the window's bytes do. -/
theorem frameCheckReadsOnlyItsWindow : Obligations.FrameCheckReadsOnlyItsWindow := by
  unfold Obligations.FrameCheckReadsOnlyItsWindow
  intro s s' t t' hidle hidle' hparams hbufLen hframeSize hstart hlen hfs hend hwindow ht ht'
  have hexec : exec .frameCheck s = .next s.frameChecked := exec_frameCheck_ok hidle hlen hfs hend
  have hexec' : exec .frameCheck s' = .next s'.frameChecked :=
    exec_frameCheck_ok hidle' (hbufLen ▸ hparams ▸ hlen) (hframeSize ▸ hfs)
      (by rw [State.frameEnd, ← hstart, ← hframeSize, ← hbufLen]; exact hend)
  cases hexec.symm.trans ht
  cases hexec'.symm.trans ht'
  simp only [State.frameChecked_chkResult, State.frameChecked_chkComputed, State.frameChecked_chkStored,
    State.frameChecked_chkCounter, ← hstart, ← hframeSize]
  exact ⟨State.classBits_eq hfs hwindow, State.frameCrc_eq hwindow, State.storedCrc_eq hfs hwindow,
    State.counterAt_eq hfs hwindow⟩

/-! ### The check and the scan agree (R135, R161) -/

/-- A scan step inside the buffer counts a frame exactly when the candidate at the cursor is a valid one (R161 to
R164). -/
theorem engineStep_counts_iff {s u : State} (hop : s.op = .scan)
    (hin : s.cursor.toNat + s.frameSize.toNat ≤ s.bufLen.toNat) (hstep : engineStep s = .next u) :
    u.validCount = s.validCount + 1 ↔
      (s.hdrMatch s.cursor.toNat && s.crcMatch s.cursor.toNat s.frameSize.toNat) = true := by
  cases engineStep_effect hstep with
  | idle hop' | rangeEnd hop' | rangeByte hop' => exact nomatch hop.symm.trans hop'
  | scanEnd _ hend => exact absurd hend (Nat.not_lt.2 hin)
  | skipByte _ _ _ _ hhdr => simp [hhdr]
  | countBad _ _ _ _ _ hcrc => simp [hcrc]
  | takeFrame _ _ _ _ hhdr hcrc => simp [hhdr, hcrc]

/-- Settles O42: VALID and the scan step's count are both the classification of the candidate at START. -/
theorem frameCheckAgreesWithTheScan : Obligations.FrameCheckAgreesWithTheScan := by
  unfold Obligations.FrameCheckAgreesWithTheScan
  intro s t u hidle hlen hfs hend ht hu
  have hcounts := engineStep_counts_iff (s := { s with op := .scan, cursor := s.start }) rfl hend hu
  cases (exec_frameCheck_ok hidle hlen hfs hend).symm.trans ht
  rw [s.frameChecked_chkResult, s.classBits_getLsbD_valid]
  exact hcounts.symm

end Sys2Proof.Machine

/-! PROOFS. The frame scanner (42_scan): the issue of SCAN_START, the engine's scan steps, what a running scan's results
are, that a whole scan is the source's algorithm, and the reads of its results. -/
namespace Sys2Proof.Machine
open Sys2Proof

/-! ### What a scan reads (R130 to R133, R259) -/

/-- The detector and the slicer see the capture buffer only. -/
theorem State.detector_congr {s t : State} (h : t.bufByte = s.bufByte) :
    t.hdrMatch = s.hdrMatch ∧ t.frameCrc = s.frameCrc ∧ t.storedCrc = s.storedCrc ∧ t.counterAt = s.counterAt := by
  have hbyte (b : Nat) : t.bufByte b = s.bufByte b := congrFun h b
  refine ⟨funext fun a => ?_, funext₂ fun a fs => ?_, funext₂ fun a fs => ?_, funext fun a => ?_⟩
  · exact State.hdrMatch_eq fun b _ _ => hbyte b
  · exact State.frameCrc_eq fun b _ _ => hbyte b
  · exact State.memRead_eq (a := a + fs - 4) fun b _ _ => hbyte b
  · exact State.memRead_eq (a := a + 56) fun b _ _ => hbyte b

/-! ### A scan step's registers and results (R162 to R166, R228) -/

theorem engineStep_of_scan {s : State} (hop : s.op = .scan) : engineStep s = scanStep s := by
  simp only [engineStep, hop]

/-- The entries after one was written. -/
theorem State.resEntry_of_write {s t : State} {a : Nat} {entry : ResEntry} (hres : t.res = Memory.write s.res a entry)
    (hepoch : t.epoch = s.epoch) (k : Nat) : t.resEntry k = if k = a then entry else s.resEntry k := by
  split
  · rename_i hk
    simp [State.resEntry, hres, hk]
  · rename_i hk
    simp [State.resEntry, hres, hepoch, Memory.read?_write_of_ne _ _ hk]

theorem State.takeFrame_room {s : State} (hroom : s.validCount.toNat < s.params.resDepth.toNat) :
    s.takeFrame = { s with
      res := Memory.write s.res s.validCount.toNat ⟨s.cursor, s.counterAt s.cursor.toNat⟩
      validCount := s.validCount + 1
      cursor := s.cursor + s.frameSize } := by
  rw [State.takeFrame, State.record_room hroom]

theorem State.takeFrame_full {s : State} (hfull : ¬ s.validCount.toNat < s.params.resDepth.toNat) :
    s.takeFrame = { s.raise .resOvf with validCount := s.validCount + 1, cursor := s.cursor + s.frameSize } := by
  rw [State.takeFrame, State.record_full hfull]

theorem State.takeFrame_resEntry_room {s : State} (hroom : s.validCount.toNat < s.params.resDepth.toNat) (k : Nat) :
    s.takeFrame.resEntry k =
      if k = s.validCount.toNat then ⟨s.cursor, s.counterAt s.cursor.toNat⟩ else s.resEntry k := by
  have hres : s.takeFrame.res = Memory.write s.res s.validCount.toNat ⟨s.cursor, s.counterAt s.cursor.toNat⟩ := by
    rw [State.takeFrame_room hroom]
  have hepoch : s.takeFrame.epoch = s.epoch := by rw [State.takeFrame_room hroom]
  exact State.resEntry_of_write hres hepoch k

theorem State.takeFrame_resEntry_full {s : State} (hfull : ¬ s.validCount.toNat < s.params.resDepth.toNat) :
    s.takeFrame.resEntry = s.resEntry := by
  rw [State.takeFrame_full hfull]
  exact State.resEntry_congr rfl rfl

/-- Whether there is room or not, no entry but the one VALID_COUNT names is written. -/
theorem State.takeFrame_resEntry_of_ne (s : State) {k : Nat} (hk : k ≠ s.validCount.toNat) :
    s.takeFrame.resEntry k = s.resEntry k := by
  by_cases hroom : s.validCount.toNat < s.params.resDepth.toNat
  · rw [State.takeFrame_resEntry_room hroom, if_neg hk]
  · rw [State.takeFrame_resEntry_full hroom]

theorem State.takeFrame_resOvf (s : State) :
    s.takeFrame.status.error .resOvf = true ↔
      s.status.error .resOvf = true ∨ s.params.resDepth.toNat ≤ s.validCount.toNat := by
  by_cases hroom : s.validCount.toNat < s.params.resDepth.toNat
  · simp [State.takeFrame_room hroom, hroom]
  · simp [State.takeFrame_full hroom, Nat.not_lt.1 hroom]

/-- The elements a scan writes, STATUS apart. -/
theorem State.withScanRegisters_frame (s : State) (op : EngineOp) (cursor valid bad : Word) (res : Memory ResEntry) :
    UnchangedExcept [.op, .cursor, .validCount, .badCount, .res] s
      { s with op := op, cursor := cursor, validCount := valid, badCount := bad, res := res } := by
  intro e he
  cases e with
  | op | cursor | validCount | badCount | res => exact absurd (by decide) he
  | buf => exact fun _ => rfl
  | _ => rfl

theorem State.skipByte_frame (s : State) : UnchangedExcept [.cursor] s s.skipByte :=
  (s.withScanRegisters_frame s.op (s.cursor + 1) s.validCount s.badCount s.res).strike
    (by simp [Elem.Same, State.resEntry])

theorem State.countBad_frame (s : State) : UnchangedExcept [.badCount, .cursor] s s.countBad :=
  (s.withScanRegisters_frame s.op (s.cursor + 1) s.validCount (s.badCount + 1) s.res).strike
    (by simp [Elem.Same, State.resEntry])

theorem State.takeFrame_frame_room {s : State} (hroom : s.validCount.toNat < s.params.resDepth.toNat) :
    UnchangedExcept [.validCount, .cursor, .res] s s.takeFrame := by
  rw [State.takeFrame_room hroom]
  exact (s.withScanRegisters_frame s.op _ _ s.badCount _).strike (by simp [Elem.Same])

theorem State.takeFrame_frame_full {s : State} (hfull : ¬ s.validCount.toNat < s.params.resDepth.toNat) :
    UnchangedExcept [.validCount, .cursor, .error .resOvf] s s.takeFrame := by
  rw [State.takeFrame_full hfull]
  refine ((s.raise_frame .resOvf).trans ((s.raise .resOvf).withScanRegisters_frame s.op _ _ s.badCount s.res)).strike ?_
  simp [Elem.Same, State.resEntry]

theorem State.takeFrame_frame (s : State) :
    UnchangedExcept [.validCount, .cursor, .res, .error .resOvf] s s.takeFrame := by
  by_cases hroom : s.validCount.toNat < s.params.resDepth.toNat
  · exact (State.takeFrame_frame_room hroom).mono (by decide)
  · exact (State.takeFrame_frame_full hroom).mono (by decide)

section
/-! A scan step with a whole window ahead, its configuration legal. -/
variable {s : State} (hop : s.op = .scan) (hlen : s.bufLen.toNat ≤ s.params.bufCap.toNat)
  (hfs : 60 ≤ s.frameSize.toNat) (hin : s.cursor.toNat + s.frameSize.toNat ≤ s.bufLen.toNat)

include hin in
theorem State.cursor_add_frameSize : (s.cursor + s.frameSize).toNat = s.cursor.toNat + s.frameSize.toNat :=
  BitVec.toNat_add_of_lt (hin.trans_lt s.bufLen.isLt)

include hfs hin in
theorem State.cursor_add_one : (s.cursor + 1).toNat = s.cursor.toNat + 1 :=
  BitVec.toNat_add_of_lt (by have := s.bufLen.isLt; simp; omega)

include hop hlen hfs hin

theorem engineStep_skipByte (hhdr : s.hdrMatch s.cursor.toNat = false) : engineStep s = .next s.skipByte := by
  rw [engineStep_of_scan hop, scanStep_inside hlen hfs hin]
  simp [hhdr]

theorem engineStep_countBad (hhdr : s.hdrMatch s.cursor.toNat = true)
    (hcrc : s.frameCrc s.cursor.toNat s.frameSize.toNat ≠ s.storedCrc s.cursor.toNat s.frameSize.toNat) :
    engineStep s = .next s.countBad := by
  rw [engineStep_of_scan hop, scanStep_inside hlen hfs hin]
  simp [hhdr, mt (s.crcMatch_iff _ _).1 hcrc]

theorem engineStep_takeFrame (hhdr : s.hdrMatch s.cursor.toNat = true)
    (hcrc : s.frameCrc s.cursor.toNat s.frameSize.toNat = s.storedCrc s.cursor.toNat s.frameSize.toNat) :
    engineStep s = .next s.takeFrame := by
  rw [engineStep_of_scan hop, scanStep_inside hlen hfs hin]
  simp [hhdr, (s.crcMatch_iff _ _).2 hcrc]

end

/-! ### What a step does to a running scan's results (R163, R166, R167) -/

/-- An entry that is a valid frame of the buffer behind the cursor: what `State.ResultsValid` says of each readable
one. -/
def State.HasFrame (s : State) (e : ResEntry) : Prop :=
  e.offset.toNat + s.frameSize.toNat ≤ s.cursor.toNat ∧
  e.offset.toNat + s.frameSize.toNat ≤ s.bufLen.toNat ∧
  s.hdrMatch e.offset.toNat = true ∧
  s.frameCrc e.offset.toNat s.frameSize.toNat = s.storedCrc e.offset.toNat s.frameSize.toNat ∧
  e.counter = s.counterAt e.offset.toNat

theorem State.resultsValid_iff (s : State) :
    s.ResultsValid ↔ (s.op = .scan → ∀ k, k < s.nStored → s.HasFrame (s.resEntry k)) := Iff.rfl

/-- From `s` to `t` the buffer and its bounds stay, the cursor does not go back, and each result readable in `t` was
readable in `s` or is the next one, a valid frame at the cursor of `s`. -/
structure ResultsGrow (s t : State) : Prop where
  frame_size : t.frameSize = s.frameSize
  buf_len : t.bufLen = s.bufLen
  buf_byte : t.bufByte = s.bufByte
  cursor_le : s.cursor.toNat ≤ t.cursor.toNat
  readable : ∀ k, k < t.nStored →
    (k < s.nStored ∧ t.resEntry k = s.resEntry k) ∨
    (k = s.nStored ∧ (t.resEntry k).offset = s.cursor ∧ t.HasFrame (t.resEntry k))

theorem ResultsGrow.hasFrame {s t : State} (h : ResultsGrow s t) {e : ResEntry} (hframe : s.HasFrame e) :
    t.HasFrame e := by
  obtain ⟨hbehind, hinside, hhdr, hcrc, hcounter⟩ := hframe
  obtain ⟨hdrMatch_eq, frameCrc_eq, storedCrc_eq, counterAt_eq⟩ := State.detector_congr h.buf_byte
  simp only [State.HasFrame, h.frame_size, h.buf_len, hdrMatch_eq, frameCrc_eq, storedCrc_eq, counterAt_eq]
  exact ⟨hbehind.trans h.cursor_le, hinside, hhdr, hcrc, hcounter⟩

/-- A move that records nothing. -/
theorem SameEngineInputs.resultsGrow {s t : State} (h : SameEngineInputs s t) (hepoch : t.epoch = s.epoch)
    (hvalid : t.validCount = s.validCount) (hres : t.res = s.res) (hcursor : s.cursor.toNat ≤ t.cursor.toNat) :
    ResultsGrow s t := by
  obtain ⟨hlen, hfs, -, -, hbuf, hparams⟩ := h
  have hstored : t.nStored = s.nStored := by simp only [State.nStored, hvalid, hparams]
  exact {
    frame_size := hfs
    buf_len := hlen
    buf_byte := State.bufByte_congr hbuf hepoch
    cursor_le := hcursor
    readable := fun k hk => .inl ⟨hstored ▸ hk, congrFun (State.resEntry_congr hres hepoch) k⟩ }

/-- Taking a turn touches nothing the results speak of. -/
theorem SameMachine.resultsGrow {s s' t : State} (hsame : SameMachine s s') (h : ResultsGrow s' t) :
    ResultsGrow s t := by
  rw [hsame.eq] at h
  exact { h with }

/-- Taking a frame makes it the next readable result, if there is room (R166, R228). -/
theorem State.Inv.takeFrame_resultsGrow {s : State} (h : s.Inv) (hop : s.op = .scan)
    (hin : s.cursor.toNat + s.frameSize.toNat ≤ s.bufLen.toNat) (hhdr : s.hdrMatch s.cursor.toNat = true)
    (hcrc : s.frameCrc s.cursor.toNat s.frameSize.toNat = s.storedCrc s.cursor.toNat s.frameSize.toNat) :
    ResultsGrow s s.takeFrame := by
  obtain ⟨-, hcursor, hvalid, -⟩ := h.scan_increments hop hin
  obtain ⟨hparams, -, -, hlen, hfs, -, -, -, -, hcount, hjump⟩ := s.takeFrame_registers
  obtain ⟨hdrMatch_eq, frameCrc_eq, storedCrc_eq, counterAt_eq⟩ := State.detector_congr s.takeFrame_bufByte
  have hnew : s.takeFrame.HasFrame ⟨s.cursor, s.counterAt s.cursor.toNat⟩ := by
    simp only [State.HasFrame, hfs, hlen, hjump, hcursor, hdrMatch_eq, frameCrc_eq, storedCrc_eq, counterAt_eq]
    exact ⟨le_rfl, hin, hhdr, hcrc, trivial⟩
  refine ⟨hfs, hlen, s.takeFrame_bufByte, by rw [hjump, hcursor]; exact Nat.le_add_right _ _, fun k hk => ?_⟩
  simp only [State.nStored, hparams, hcount, hvalid] at hk ⊢
  by_cases hroom : s.validCount.toNat < s.params.resDepth.toNat
  · rw [State.takeFrame_resEntry_room hroom]
    split
    · exact .inr ⟨by omega, rfl, hnew⟩
    · exact .inl ⟨by omega, rfl⟩
  · rw [State.takeFrame_resEntry_full hroom]
    exact .inl ⟨by omega, rfl⟩

theorem EngineEffect.resultsGrow {s t : State} (run : EngineEffect s t) (h : s.Inv) (hop : t.op = .scan) :
    s.op = .scan ∧ ResultsGrow s t := by
  have hinputs := run.sameEngineInputs
  cases run with
  | idle hidle => exact nomatch hidle.symm.trans hop
  | rangeEnd | scanEnd => exact nomatch hop
  | rangeByte hrange => exact nomatch hrange.symm.trans hop
  | skipByte _ hin | countBad _ hin =>
    obtain ⟨hcursor, -⟩ := h.scan_increments hop hin
    exact ⟨hop, hinputs.resultsGrow rfl rfl rfl (Nat.le_of_lt (hcursor ▸ Nat.lt_succ_self _))⟩
  | takeFrame hop' hin _ _ hhdr hcrc =>
    exact ⟨hop', h.takeFrame_resultsGrow hop' hin hhdr ((s.crcMatch_iff _ _).1 hcrc)⟩

/-- The one instruction that makes an idle machine scan is SCAN_START, which leaves no result readable (R160). -/
theorem Effect.nStored_of_scan {s t : State} {i : Instr} (run : Effect s i t) (hidle : s.op = .idle)
    (hop : t.op = .scan) : t.nStored = 0 := by
  cases run with
  | command _ _ _ _ _ run =>
    cases run with
    | scanStart => exact Nat.zero_min _
    | crcRange => exact nomatch hop
    | _ => exact nomatch hidle.symm.trans hop
  | _ => exact nomatch hidle.symm.trans hop

theorem Effect.resultsGrow {s t : State} {i : Instr} (run : Effect s i t) (hbusy : s.op ≠ .idle) (hop : t.op = .scan) :
    s.op = .scan ∧ ResultsGrow s t := by
  have hinputs := run.sameEngineInputs_of_busy hbusy
  rcases run.of_busy hbusy with rfl | ⟨v, rfl⟩ | ⟨v, rfl⟩ | rfl <;>
    exact ⟨hop, hinputs.resultsGrow rfl rfl rfl le_rfl⟩

/-- After a step a running scan has no readable result, or it ran before the step and its results grew. -/
theorem step_resultsGrow {s t : State} (hinv : s.Inv) (hstep : step s = .next t) (hop : t.op = .scan) :
    t.nStored = 0 ∨ (s.op = .scan ∧ ResultsGrow s t) := by
  cases step_effect hstep with
  | nobody hidle => exact nomatch hidle.symm.trans hop
  | reset => exact nomatch hop
  | engine s' _ _ same run =>
    obtain ⟨hop', hgrow⟩ := run.resultsGrow (same.inv hinv) hop
    exact .inr ⟨same.op_eq ▸ hop', same.resultsGrow hgrow⟩
  | instr s' _ _ _ same run =>
    by_cases hidle : s'.op = .idle
    · exact .inl (run.nStored_of_scan hidle hop)
    · obtain ⟨hop', hgrow⟩ := run.resultsGrow hidle hop
      exact .inr ⟨same.op_eq ▸ hop', same.resultsGrow hgrow⟩

/-- Settles O46: a result readable after the step was a valid frame before it and stays one, or is the frame just
taken. -/
theorem resultsStayValidFrames : Obligations.ResultsStayValidFrames := by
  unfold Obligations.ResultsStayValidFrames
  intro s t hinv hvalid hstep
  rw [State.resultsValid_iff] at hvalid ⊢
  intro hop k hk
  rcases step_resultsGrow hinv hstep hop with hnone | ⟨hop', hgrow⟩
  · omega
  · rcases hgrow.readable k hk with ⟨hk', hentry⟩ | ⟨-, -, hframe⟩
    · rw [hentry]
      exact hgrow.hasFrame (hvalid hop' k hk')
    · exact hframe

/-- Settles O47: two results readable before the step ascend as they did, and a new one lies at the cursor, which the
result before it does not pass. -/
theorem resultsStayAscending : Obligations.ResultsStayAscending := by
  unfold Obligations.ResultsStayAscending
  intro s t hinv hvalid hascend hstep hop k hk
  rcases step_resultsGrow hinv hstep hop with hnone | ⟨hop', hgrow⟩
  · omega
  · obtain ⟨hold, hentry⟩ : k < s.nStored ∧ t.resEntry k = s.resEntry k :=
      (hgrow.readable k (by omega)).resolve_right fun ⟨hlast, _⟩ => by
        rcases hgrow.readable (k + 1) hk with ⟨hnext, _⟩ | ⟨hnext, _⟩ <;> omega
    rw [hgrow.frame_size, hentry]
    rcases hgrow.readable (k + 1) hk with ⟨hnext, hentry'⟩ | ⟨-, hoffset, -⟩
    · rw [hentry']
      exact hascend hop' k hnext
    · obtain ⟨hbehind, -⟩ := s.resultsValid_iff.1 hvalid hop' k hold
      rw [hoffset]
      exact hbehind

/-- Settles O48: the invariant's bounds, and that each is far from 2^32. -/
theorem scanCountsAreBounded : Obligations.ScanCountsAreBounded := by
  unfold Obligations.ScanCountsAreBounded
  intro s hinv hop
  obtain ⟨-, hfs⟩ := hinv.scan_config hop
  obtain ⟨hcursor, hshort⟩ := hinv.scan_cursor hop
  obtain ⟨hspan, hcount⟩ := hinv.scan_counts hop
  have hmin : 60 ≤ s.frameSize.toNat := hfs
  have hlt := s.bufLen.isLt
  have hcursor' : s.cursor.toNat ≤ s.bufLen.toNat := by omega
  refine ⟨by omega, hcount, ?_, ?_, State.cursor_add_frameSize⟩ <;>
    apply BitVec.toNat_add_of_lt <;> simp <;> omega

/-! ### The issue of SCAN_START and the scan's steps (R160 to R166, R169) -/

/-- The state the issue of a legal SCAN_START leaves (R160). -/
def State.scanIssued (s : State) : State :=
  { s.beginCommand with cursor := 0, validCount := 0, badCount := 0, op := .scan }

theorem exec_scanStart_ok {s : State} (hidle : s.op = .idle) (hlen : s.bufLen.toNat ≤ s.params.bufCap.toNat)
    (hfs : 60 ≤ s.frameSize.toNat) : exec .scanStart s = .next s.scanIssued :=
  (exec_commandInstr_idle hidle .scanStart).trans (congrArg _ (State.runScanStart_ok (s := s.beginCommand) hlen hfs))

theorem State.scanIssued_frame (s : State) :
    UnchangedExcept [.op, .cursor, .validCount, .badCount, .done] s s.scanIssued :=
  (s.beginCommand_frame.trans (s.beginCommand.withScanRegisters_frame .scan 0 0 0 s.res)).strike
    (by simp [Elem.Same, State.resEntry])

/-- Settles O19, by the two outcomes of the issue's check; a busy machine drops the command, and an operand makes the
word illegal. -/
theorem scanStartIssue : Obligations.ScanStartIssue := by
  unfold Obligations.ScanStartIssue
  refine ⟨fun s hidle => ⟨fun hconfig => ?_, fun hlen hfs => ?_⟩, fun s hbusy => ?_,
    fun s v hidle hopc hoperand => ?_, rfl⟩
  · have hexec : exec .scanStart s = .next s.beginCommand.runScanStart := exec_commandInstr_idle hidle .scanStart
    rw [hexec, State.runScanStart_cfgErr (s := s.beginCommand) hconfig]
    exact refusedWith_raise s .cfgErr
  · exact ⟨_, exec_scanStart_ok hidle hlen hfs, rfl, rfl, rfl, rfl, Nat.zero_min _, rfl, s.scanIssued_frame⟩
  · exact droppedAsBusy_commandInstr hbusy .scanStart
  · obtain ⟨r, hillegal⟩ := decodeCommand_of_operand (w := v) (by simp [cmdOpc, hopc]) hoperand
    exact refusedWith_cmdErr hidle hillegal

/-- Settles O38, by the branches of the step that take no frame; with a window ahead the cursor does not wrap. -/
theorem scanStepWithoutAFrame : Obligations.ScanStepWithoutAFrame := by
  unfold Obligations.ScanStepWithoutAFrame
  refine ⟨fun s hop hend => ?_, fun s hop hlen hfs hin hhdr => ?_, fun s hop hlen hfs hin hhdr hcrc => ?_⟩
  · exact ⟨_, (engineStep_of_scan hop).trans (scanStep_end hend), rfl, rfl, s.finish_frame⟩
  · exact ⟨_, engineStep_skipByte hop hlen hfs hin hhdr, State.cursor_add_one hfs hin, s.skipByte_frame⟩
  · exact ⟨_, engineStep_countBad hop hlen hfs hin hhdr hcrc, rfl, State.cursor_add_one hfs hin, s.countBad_frame⟩

/-- Settles O39, by whether `res` has room for the frame. -/
theorem scanStepRecordsAValidFrame : Obligations.ScanStepRecordsAValidFrame := by
  unfold Obligations.ScanStepRecordsAValidFrame
  intro s hop hlen hfs hin hhdr hcrc
  obtain ⟨-, -, -, -, -, -, -, -, -, hcount, hjump⟩ := s.takeFrame_registers
  refine ⟨_, engineStep_takeFrame hop hlen hfs hin hhdr hcrc, hcount, ?_, ?_⟩
  · rw [hjump, State.cursor_add_frameSize hin]
  · split
    · rename_i hroom
      have hentry := State.takeFrame_resEntry_room hroom
      exact ⟨by rw [hentry, if_pos rfl], fun k hk => s.takeFrame_resEntry_of_ne hk, State.takeFrame_frame_room hroom⟩
    · rename_i hfull
      exact ⟨s.takeFrame_resOvf.2 (.inr (Nat.not_lt.1 hfull)), State.takeFrame_frame_full hfull⟩

/-- A command row is dropped, or does what its command can do. -/
theorem commandInstr_effect {s t : State} {c : Command} (h : exec (commandInstr c) s = .next t) :
    t = s.raise .busyErr ∨ CommandEffect s.beginCommand c t := by
  rw [exec_commandInstr, State.issue] at h
  cases h
  by_cases hidle : s.op = .idle
  · rw [State.unlessBusy_idle hidle]
    exact .inr (State.runCommand_effect _ c)
  · exact .inl (State.unlessBusy_busy hidle _)

/-- Settles O54, by the cases of what a scan step and the two commands can do. -/
theorem scanAndCheckLeaveTheAccumulator : Obligations.ScanAndCheckLeaveTheAccumulator := by
  unfold Obligations.ScanAndCheckLeaveTheAccumulator
  refine ⟨fun s t hop hstep => ?_, fun s t hexec => ?_, fun s t hexec => ?_⟩
  · cases engineStep_effect hstep with
    | rangeByte hrange => exact nomatch hop.symm.trans hrange
    | takeFrame => simp [State.takeFrame, State.record_frame]
    | _ => exact ⟨rfl, rfl, rfl, rfl, rfl, rfl, rfl, rfl⟩
  · rcases commandInstr_effect (c := .scanStart) hexec with rfl | run
    · exact ⟨rfl, rfl, rfl, rfl, rfl, rfl, rfl, rfl⟩
    · cases run <;> exact ⟨rfl, rfl, rfl, rfl, rfl, rfl, rfl, rfl⟩
  · rcases commandInstr_effect (c := .frameCheck) hexec with rfl | run
    · exact ⟨rfl, rfl, rfl, rfl, rfl, rfl, rfl⟩
    · cases run <;> exact ⟨rfl, rfl, rfl, rfl, rfl, rfl, rfl⟩

/-! ### A whole scan is the source's algorithm (R160 to R166, R173) -/

/-- All that the source's scan finds if it is at position `i` and has found `found` and `bad` so far. -/
def sourceTotal (s : State) (fuel i : Nat) (found : List (Nat × Word)) (bad : Nat) : List (Nat × Word) × Nat :=
  (found ++ (sourceScan s fuel i).1, bad + (sourceScan s fuel i).2)

theorem sourceTotal_nil (s : State) (fuel i : Nat) : sourceTotal s fuel i [] 0 = sourceScan s fuel i := by
  simp [sourceTotal]

section
/-! The rounds of the source's scan. -/
variable {s : State} {i : Nat} (fuel : Nat) (found : List (Nat × Word)) (bad : Nat)

theorem sourceTotal_end (hend : s.bufLen.toNat < i + s.frameSize.toNat) :
    sourceTotal s fuel i found bad = (found, bad) := by
  cases fuel <;> simp [sourceTotal, sourceScan, Nat.not_le.2 hend]

variable (hin : i + s.frameSize.toNat ≤ s.bufLen.toNat)
include hin

theorem sourceTotal_skip (hhdr : s.hdrMatch i = false) :
    sourceTotal s (fuel + 1) i found bad = sourceTotal s fuel (i + 1) found bad := by
  simp [sourceTotal, sourceScan, hin, hhdr]

theorem sourceTotal_bad (hhdr : s.hdrMatch i = true)
    (hcrc : s.frameCrc i s.frameSize.toNat ≠ s.storedCrc i s.frameSize.toNat) :
    sourceTotal s (fuel + 1) i found bad = sourceTotal s fuel (i + 1) found (bad + 1) := by
  simp [sourceTotal, sourceScan, hin, hhdr, hcrc, Nat.add_assoc, Nat.add_comm 1]

theorem sourceTotal_frame (hhdr : s.hdrMatch i = true)
    (hcrc : s.frameCrc i s.frameSize.toNat = s.storedCrc i s.frameSize.toNat) :
    sourceTotal s (fuel + 1) i found bad =
      sourceTotal s fuel (i + s.frameSize.toNat) (found ++ [(i, s.counterAt i)]) bad := by
  simp [sourceTotal, sourceScan, hin, hhdr, hcrc]

end

/-- At `u` a scan issued from `s` has found the frames `found`, in this order, and `bad` bad hits. -/
structure ScanProgress (s u : State) (found : List (Nat × Word)) (bad : Nat) : Prop where
  frame : UnchangedExcept [.op, .cursor, .validCount, .badCount, .res, .done, .error .resOvf] s u
  valid_count : u.validCount.toNat = found.length
  bad_count : u.badCount.toNat = bad
  /-- Each frame and each bad hit has moved the cursor, so no count can wrap before the cursor would. -/
  span : found.length + bad ≤ u.cursor.toNat
  inside : s.frameSize.toNat ≤ s.bufLen.toNat → u.cursor.toNat ≤ s.bufLen.toNat
  short : s.bufLen.toNat < s.frameSize.toNat → u.cursor.toNat = 0
  entries : ∀ k f, k < s.params.resDepth.toNat → found[k]? = some f →
    (u.resEntry k).offset.toNat = f.1 ∧ (u.resEntry k).counter = f.2
  overflow : u.status.error .resOvf = true ↔
    s.status.error .resOvf = true ∨ s.params.resDepth.toNat < found.length

theorem State.scanIssued_progress (s : State) : ScanProgress s s.scanIssued [] 0 where
  frame := s.scanIssued_frame.mono (by decide)
  valid_count := rfl
  bad_count := rfl
  span := Nat.zero_le _
  inside := fun _ => Nat.zero_le _
  short := fun _ => rfl
  entries := by simp
  overflow := by simp [State.scanIssued]

namespace ScanProgress
variable {s u : State} {found : List (Nat × Word)} {bad : Nat} (h : ScanProgress s u found bad)
include h

theorem params_eq : u.params = s.params := h.frame .params (by decide)
theorem bufLen_eq : u.bufLen = s.bufLen := h.frame .bufLen (by decide)
theorem frameSize_eq : u.frameSize = s.frameSize := h.frame .frameSize (by decide)
theorem pending_eq : u.pending = s.pending := h.frame .pending (by decide)
theorem bufByte_eq : u.bufByte = s.bufByte := funext (h.frame .buf (by decide))

theorem finish : ScanProgress s u.finish found bad :=
  { h with
    frame := (h.frame.trans u.finish_frame).mono (by decide)
    overflow := by simpa using h.overflow }

section
/-! A whole window ahead of the cursor. -/
variable (hfs : 60 ≤ s.frameSize.toNat) (hin : u.cursor.toNat + s.frameSize.toNat ≤ s.bufLen.toNat)
include hfs hin

/-- No increment wraps while a window lies ahead (R175). -/
theorem increments : (u.cursor + 1).toNat = u.cursor.toNat + 1 ∧
    (u.cursor + u.frameSize).toNat = u.cursor.toNat + s.frameSize.toNat ∧
    (u.validCount + 1).toNat = found.length + 1 ∧ (u.badCount + 1).toNat = bad + 1 := by
  have hspan := h.span
  have hlt := s.bufLen.isLt
  rw [← h.frameSize_eq, ← h.valid_count, ← h.bad_count]
  rw [← h.valid_count, ← h.bad_count] at hspan
  rw [← h.frameSize_eq] at hfs hin
  refine ⟨?_, ?_, ?_, ?_⟩ <;> apply BitVec.toNat_add_of_lt <;> simp <;> omega

theorem skipByte : ScanProgress s u.skipByte found bad := by
  obtain ⟨hcursor, -⟩ := h.increments hfs hin
  have hspan := h.span
  exact { h with
    frame := (h.frame.trans u.skipByte_frame).mono (by decide)
    span := by rw [u.skipByte_cursor, hcursor]; omega
    inside := fun _ => by rw [u.skipByte_cursor, hcursor]; omega
    short := fun hshort => by omega }

theorem countBad : ScanProgress s u.countBad found (bad + 1) := by
  obtain ⟨hcursor, -, -, hbad⟩ := h.increments hfs hin
  have hspan := h.span
  exact { h with
    frame := (h.frame.trans u.countBad_frame).mono (by decide)
    bad_count := hbad
    span := by rw [u.countBad_cursor, hcursor]; omega
    inside := fun _ => by rw [u.countBad_cursor, hcursor]; omega
    short := fun hshort => by omega }

omit hfs hin in
/-- The frame taken is the next entry of `res`, if there is room (R166). -/
theorem takeFrame_entries {k : Nat} {f : Nat × Word} (hk : k < s.params.resDepth.toNat)
    (hf : (found ++ [(u.cursor.toNat, s.counterAt u.cursor.toNat)])[k]? = some f) :
    (u.takeFrame.resEntry k).offset.toNat = f.1 ∧ (u.takeFrame.resEntry k).counter = f.2 := by
  rw [List.getElem?_append] at hf
  split at hf
  · rename_i hold
    rw [u.takeFrame_resEntry_of_ne (h.valid_count ▸ hold.ne)]
    exact h.entries k f hk hf
  · obtain ⟨hlast, rfl⟩ : k - found.length = 0 ∧ (u.cursor.toNat, s.counterAt u.cursor.toNat) = f := by
      simpa [List.getElem?_singleton] using hf
    have hnew : k = u.validCount.toNat := by rw [h.valid_count]; omega
    have hroom : u.validCount.toNat < u.params.resDepth.toNat := by rwa [← hnew, h.params_eq]
    obtain ⟨-, -, -, counterAt_eq⟩ := State.detector_congr h.bufByte_eq
    rw [State.takeFrame_resEntry_room hroom, if_pos hnew, counterAt_eq]
    exact ⟨rfl, rfl⟩

theorem takeFrame : ScanProgress s u.takeFrame (found ++ [(u.cursor.toNat, s.counterAt u.cursor.toNat)]) bad := by
  obtain ⟨-, hcursor, hvalid, -⟩ := h.increments hfs hin
  obtain ⟨-, -, -, -, -, -, -, -, hbad, hcount, hjump⟩ := u.takeFrame_registers
  have hspan := h.span
  exact {
    frame := (h.frame.trans u.takeFrame_frame).mono (by decide)
    valid_count := by rw [hcount, hvalid, List.length_append, List.length_singleton]
    bad_count := hbad ▸ h.bad_count
    span := by rw [hjump, hcursor, List.length_append, List.length_singleton]; omega
    inside := fun _ => by rw [hjump, hcursor]; omega
    short := fun hshort => by omega
    entries := fun _ _ => h.takeFrame_entries
    overflow := by
      rw [u.takeFrame_resOvf, h.overflow, or_assoc, h.params_eq, h.valid_count, List.length_append,
        List.length_singleton]
      exact or_congr_right (by omega) }

end

variable (hop : u.op = .scan) (hp : s.pending = [])
include hop hp

theorem step_eq_engineStep : step u = engineStep u :=
  step_of_turn_engine (State.turn_busy_nil (by simp [hop]) (h.pending_eq.trans hp))

theorem step_end (hend : s.bufLen.toNat < u.cursor.toNat + s.frameSize.toNat) : step u = .next u.finish := by
  rw [← h.bufLen_eq, ← h.frameSize_eq] at hend
  rw [h.step_eq_engineStep hop hp, engineStep_of_scan hop, scanStep_end hend]

variable (hlen : s.bufLen.toNat ≤ s.params.bufCap.toNat) (hfs : 60 ≤ s.frameSize.toNat)
include hlen hfs

/-- With a window ahead, the engine's next step is a round of the source's scan. -/
theorem step_round (hin : u.cursor.toNat + s.frameSize.toNat ≤ s.bufLen.toNat) :
    ∃ u' found' bad', step u = .next u' ∧ u'.op = .scan ∧ u.cursor.toNat < u'.cursor.toNat ∧
      ScanProgress s u' found' bad' ∧
      ∀ fuel, sourceTotal s (fuel + 1) u.cursor.toNat found bad = sourceTotal s fuel u'.cursor.toNat found' bad' := by
  have hlen' : u.bufLen.toNat ≤ u.params.bufCap.toNat := by rwa [h.bufLen_eq, h.params_eq]
  have hfs' : 60 ≤ u.frameSize.toNat := by rwa [h.frameSize_eq]
  have hin' : u.cursor.toNat + u.frameSize.toNat ≤ u.bufLen.toNat := by rwa [h.frameSize_eq, h.bufLen_eq]
  obtain ⟨hadd, hjump, -, -⟩ := h.increments hfs hin
  obtain ⟨hdrMatch_eq, frameCrc_eq, storedCrc_eq, -⟩ := State.detector_congr h.bufByte_eq
  rw [h.step_eq_engineStep hop hp]
  cases hhdr : s.hdrMatch u.cursor.toNat with
  | false =>
    have hstep := engineStep_skipByte hop hlen' hfs' hin' (hdrMatch_eq ▸ hhdr)
    refine ⟨u.skipByte, _, _, hstep, hop, ?_, h.skipByte hfs hin, fun fuel => ?_⟩ <;> rw [u.skipByte_cursor, hadd]
    · omega
    · exact sourceTotal_skip fuel found bad hin hhdr
  | true =>
    by_cases hcrc : s.frameCrc u.cursor.toNat s.frameSize.toNat = s.storedCrc u.cursor.toNat s.frameSize.toNat
    · have hstep := engineStep_takeFrame hop hlen' hfs' hin' (hdrMatch_eq ▸ hhdr)
        (by rwa [frameCrc_eq, storedCrc_eq, h.frameSize_eq])
      obtain ⟨-, hop', -, -, -, -, -, -, -, -, hcursor⟩ := u.takeFrame_registers
      refine ⟨u.takeFrame, _, _, hstep, hop'.trans hop, ?_, h.takeFrame hfs hin, fun fuel => ?_⟩ <;>
        rw [hcursor, hjump]
      · omega
      · exact sourceTotal_frame fuel found bad hin hhdr hcrc
    · have hstep := engineStep_countBad hop hlen' hfs' hin' (hdrMatch_eq ▸ hhdr)
        (by rwa [frameCrc_eq, storedCrc_eq, h.frameSize_eq])
      refine ⟨u.countBad, _, _, hstep, hop, ?_, h.countBad hfs hin, fun fuel => ?_⟩ <;> rw [u.countBad_cursor, hadd]
      · omega
      · exact sourceTotal_bad fuel found bad hin hhdr hcrc

end ScanProgress

/-- With no further host event the scan from `s` ends, from `u` on, within a step for each position left and one more,
having found `total` in all (R165, R173). -/
def ScanEnds (s u : State) (total : List (Nat × Word) × Nat) : Prop :=
  ∃ n t, n ≤ s.bufLen.toNat + 1 - (u.cursor.toNat + s.frameSize.toNat) + 1 ∧
    Host.Core.run Sys2Proof.core n u = .next t ∧ t.op = .idle ∧ t.status.done = true ∧
    s.bufLen.toNat < t.cursor.toNat + s.frameSize.toNat ∧ ScanProgress s t total.1 total.2

/-- `fuel` rounds of the source's scan are enough where they would pass the end of the capture. -/
theorem ScanProgress.scanEnds {s u : State} {found : List (Nat × Word)} {bad : Nat} (h : ScanProgress s u found bad)
    (hop : u.op = .scan) (hp : s.pending = []) (hlen : s.bufLen.toNat ≤ s.params.bufCap.toNat)
    (hfs : 60 ≤ s.frameSize.toNat) {fuel : Nat} (hfuel : s.bufLen.toNat < u.cursor.toNat + fuel) :
    ScanEnds s u (sourceTotal s fuel u.cursor.toNat found bad) := by
  rcases Nat.lt_or_ge s.bufLen.toNat (u.cursor.toNat + s.frameSize.toNat) with hend | hin
  · rw [sourceTotal_end _ _ _ hend]
    exact ⟨1, u.finish, Nat.le_add_left _ _, run_succ_of_step (h.step_end hop hp hend) 0, rfl, rfl, hend, h.finish⟩
  · cases fuel with
    | zero => omega
    | succ fuel =>
      obtain ⟨u', found', bad', hstep, hop', hcursor, h', htotal⟩ := h.step_round hop hp hlen hfs hin
      obtain ⟨n, t, hn, hrun, hrest⟩ := h'.scanEnds hop' hp hlen hfs (fuel := fuel) (by omega)
      rw [htotal fuel]
      exact ⟨n + 1, t, by omega, (run_succ_of_step hstep n).trans hrun, hrest⟩

/-- Settles O41: the run of the issued scan makes the rounds of the source's algorithm from position 0. -/
theorem scanMatchesTheSourceAlgorithm : Obligations.ScanMatchesTheSourceAlgorithm := by
  unfold Obligations.ScanMatchesTheSourceAlgorithm
  intro s hidle hp hlen hfs
  obtain ⟨n, t, hn, hrun, hop, hdone, hend, hfound⟩ :=
    s.scanIssued_progress.scanEnds rfl hp hlen hfs (fuel := s.bufLen.toNat + 1) (by omega)
  have hzero : s.scanIssued.cursor.toNat = 0 := rfl
  rw [hzero, sourceTotal_nil] at hfound
  rw [hzero, Nat.zero_add] at hn
  exact ⟨s.scanIssued, t, n, exec_scanStart_ok hidle hlen hfs, hn, hrun, hop, hdone, hfound.valid_count,
    hfound.bad_count, hend, hfound.inside, hfound.short, hfound.entries, hfound.overflow,
    hfound.frame.strike (by simp [Elem.Same, hop, hidle])⟩

/-! ### The reads of a scan's results (R170 to R172) -/

theorem State.withResIdx_frame (s : State) (v : Word) : UnchangedExcept [.resIdx] s { s with resIdx := v } := by
  intro e he
  cases e with
  | resIdx => exact absurd (by decide) he
  | buf | res => exact fun _ => rfl
  | _ => rfl

/-- Settles O28: a read answers, and a write is under the lock. -/
theorem resIdxReadAndWrite : Obligations.ResIdxReadAndWrite := by
  unfold Obligations.ResIdxReadAndWrite
  refine ⟨fun s => readsAs_answer s s.resIdx, fun s v hidle => ?_, fun s v hbusy => ?_, fun v => ⟨rfl, rfl⟩⟩
  · exact ⟨_, congrArg Host.Outcome.next (State.unlessBusy_idle hidle _), rfl, s.withResIdx_frame v⟩
  · exact droppedAsBusy_unlessBusy hbusy _

theorem readsAs_rdResOffset (s : State) : ReadsAs s (exec .rdResOffset s) s.resOffsetWord := readsAs_answer s _

theorem readsAs_rdResCounter (s : State) : ReadsAs s (exec .rdResCounter s) s.resCounterWord := readsAs_answer s _

/-- Settles O29: both reads answer, and what they answer is the entry's field below n_stored and 0 from there on. -/
theorem resultReadPort : Obligations.ResultReadPort := by
  unfold Obligations.ResultReadPort
  refine ⟨fun s hstored => ?_, fun s hnone => ?_, fun v => ⟨rfl, rfl⟩⟩
  · rw [← State.resOffsetWord_stored hstored, ← State.resCounterWord_stored hstored]
    exact ⟨readsAs_rdResOffset s, readsAs_rdResCounter s⟩
  · have hoffset := readsAs_rdResOffset s
    have hcounter := readsAs_rdResCounter s
    rw [State.resOffsetWord_none hnone] at hoffset
    rw [State.resCounterWord_none hnone] at hcounter
    exact ⟨hoffset, hcounter⟩

/-- Settles O30: each read answers its register, and the three are read-only. -/
theorem countsAndCursorRead : Obligations.CountsAndCursorRead := by
  unfold Obligations.CountsAndCursorRead
  refine ⟨fun s => ?_, fun s v => ?_, fun v => ⟨rfl, rfl, rfl⟩⟩
  · exact ⟨readsAs_answer s _, readsAs_answer s _, readsAs_answer s _⟩
  · exact ⟨ignoredBy_next s, ignoredBy_next s, ignoredBy_next s⟩

end Sys2Proof.Machine

/-! PROOFS. The host family (43_host): the dispatch of a CMD write and the write lock, STATUS, the configuration
registers, the capture-buffer port and the parameters. -/
namespace Sys2Proof.Machine
open Sys2Proof

/-! ### Dispatch and the lock (R88, R192, R193, R201) -/

/-- Settles O11: while busy the lock drops the write; while idle the word is illegal or is a command's, and then the
write is the command's row. -/
theorem cmdWriteDispatches : Obligations.CmdWriteDispatches := by
  unfold Obligations.CmdWriteDispatches
  refine ⟨fun s v hbusy => ?_, fun s v r hidle hillegal => ?_, fun s v c hidle hlegal => ?_, fun s c => ?_⟩
  · exact droppedAsBusy_unlessBusy hbusy _
  · exact refusedWith_cmdErr hidle hillegal
  · exact (exec_wrCmd_of_decode hlegal s).trans (exec_commandInstr_idle hidle c)
  · exact exec_wrCmd_of_decode (decodeCommand_encodeCommand c) s

/-- The writes the lock covers answer under the lock (R192). -/
theorem exec_lockedWrite {i : Instr} {v : Word} (h : i ∈ lockedWrites v) (s : State) :
    ∃ f, exec i s = .next (s.unlessBusy f) := by
  simp only [lockedWrites, List.mem_cons, List.not_mem_nil, or_false] at h
  rcases h with rfl | rfl | rfl | rfl | rfl | rfl | rfl | rfl | rfl | rfl <;> exact ⟨_, rfl⟩

theorem commandRows_eq_map (b : Byte) :
    commandRows b = [.nop, .crcInit, .crcByte b, .crcRange, .frameCheck, .scanStart].map commandInstr := rfl

/-- Settles O13: a locked write and a command row both answer under the lock. -/
theorem lockedWritesAreDroppedWhileBusy : Obligations.LockedWritesAreDroppedWhileBusy := by
  unfold Obligations.LockedWritesAreDroppedWhileBusy
  intro s v b i hbusy hi
  rcases List.mem_append.1 hi with hwrite | hcommand
  · obtain ⟨f, hexec⟩ := exec_lockedWrite hwrite s
    exact hexec ▸ droppedAsBusy_unlessBusy hbusy f
  · rw [commandRows_eq_map] at hcommand
    obtain ⟨c, -, rfl⟩ := List.mem_map.1 hcommand
    exact droppedAsBusy_commandInstr hbusy c

/-- Settles O14: an idle machine clears DONE and sets it again, a busy one drops the command, and an operand makes the
word illegal. -/
theorem nopSetsDoneOnly : Obligations.NopSetsDoneOnly := by
  unfold Obligations.NopSetsDoneOnly
  refine ⟨fun s hidle => ?_, fun s hbusy => ?_, fun s v hidle hopc hoperand => ?_, rfl⟩
  · have hframe : UnchangedExcept [.done] s s.beginCommand.complete :=
      (s.beginCommand_frame.trans s.beginCommand.complete_frame).mono (by decide)
    exact ⟨_, exec_commandInstr_idle hidle .nop, rfl, hframe⟩
  · exact droppedAsBusy_commandInstr hbusy .nop
  · obtain ⟨r, hillegal⟩ := decodeCommand_of_operand (w := v) (by simp [cmdOpc, hopc]) hoperand
    exact refusedWith_cmdErr hidle hillegal

/-! ### STATUS (R46, R198, R199, R200) -/

/-- Settles O20: the write clears bit by bit, and the six sticky bits are all it touches. -/
theorem statusWriteClearsItsBits : Obligations.StatusWriteClearsItsBits := by
  unfold Obligations.StatusWriteClearsItsBits
  exact ⟨fun s v => ⟨_, rfl, rfl, rfl, rfl, rfl, rfl, rfl, s.statusClear_frame v⟩, fun v => rfl⟩

theorem bitWord_getLsbD (b : Bool) (k : Nat) : (bitWord b).getLsbD k = (decide (k = 0) && b) := by
  cases k <;> simp [bitWord]

theorem bitWord_shiftLeft_getLsbD (b : Bool) {n : Nat} (hn : n < 32) (k : Nat) :
    (bitWord b <<< n).getLsbD k = (decide (k = n) && b) := by
  rw [BitVec.getLsbD_shiftLeft, bitWord_getLsbD]
  rcases Nat.lt_trichotomy k n with hlt | rfl | hgt
  · simp [hlt, hlt.ne]
  · simp [hn]
  · simp [Nat.sub_ne_zero_of_lt hgt, hgt.ne']

/-- The bits of a STATUS read, from bit 0 up; there are no more (R22, R198). -/
def Status.bits (st : Status) (busy : Bool) : List Bool :=
  [busy, st.done, st.cmdErr, st.cfgErr, st.rangeErr, st.busyErr, st.addrErr, st.resOvf]

theorem Status.word_getLsbD (st : Status) (busy : Bool) (k : Nat) :
    (st.word busy).getLsbD k = (st.bits busy).getD k false := by
  simp only [Status.word, BitVec.getLsbD_or, bitWord_getLsbD, bitWord_shiftLeft_getLsbD, Nat.reduceLT]
  rcases Nat.lt_or_ge k 8 with hlow | hhigh
  · interval_cases k <;> simp [Status.bits]
  · obtain ⟨j, rfl⟩ := Nat.exists_eq_add_of_le' hhigh
    simp [Status.bits]

theorem State.busy_iff (s : State) : s.busy = true ↔ s.op ≠ .idle := bne_iff_ne

/-- Settles O21: both reads answer, and the word a STATUS read answers is known bit by bit. -/
theorem statusAndCmdReads : Obligations.StatusAndCmdReads := by
  unfold Obligations.StatusAndCmdReads
  refine ⟨fun v => ⟨rfl, rfl⟩, fun s => ⟨readsAs_answer s 0, s.statusWord, readsAs_answer s _, ?_⟩⟩
  simp only [State.statusWord, Status.word_getLsbD]
  exact ⟨s.busy_iff, rfl, rfl, rfl, rfl, rfl, rfl, rfl, fun k hk => List.getD_eq_default _ _ hk⟩

/-! ### The configuration registers and the capture-buffer port (R194 to R197, R252) -/

theorem next_unlessBusy_idle {s : State} (h : s.op = .idle) (f : State → State) :
    (.next (s.unlessBusy f) : Result) = .next (f s) := congrArg _ (State.unlessBusy_idle h f)

/-- The elements the writes of the configuration registers and of the capture-buffer port store into. -/
theorem State.withHostRegisters_frame (s : State) (len fs start count addr : Word) (buf : Memory Byte) :
    UnchangedExcept [.bufLen, .frameSize, .start, .count, .bufAddr, .buf] s
      { s with bufLen := len, frameSize := fs, start := start, count := count, bufAddr := addr, buf := buf } := by
  intro e he
  cases e with
  | bufLen | frameSize | start | count | bufAddr | buf => exact absurd (by decide) he
  | res => exact fun _ => rfl
  | _ => rfl

theorem State.withBufLen_frame (s : State) (v : Word) : UnchangedExcept [.bufLen] s { s with bufLen := v } :=
  (s.withHostRegisters_frame v s.frameSize s.start s.count s.bufAddr s.buf).strike (by simp [Elem.Same, State.bufByte])

theorem State.withFrameSize_frame (s : State) (v : Word) : UnchangedExcept [.frameSize] s { s with frameSize := v } :=
  (s.withHostRegisters_frame s.bufLen v s.start s.count s.bufAddr s.buf).strike (by simp [Elem.Same, State.bufByte])

theorem State.withStart_frame (s : State) (v : Word) : UnchangedExcept [.start] s { s with start := v } :=
  (s.withHostRegisters_frame s.bufLen s.frameSize v s.count s.bufAddr s.buf).strike
    (by simp [Elem.Same, State.bufByte])

theorem State.withCount_frame (s : State) (v : Word) : UnchangedExcept [.count] s { s with count := v } :=
  (s.withHostRegisters_frame s.bufLen s.frameSize s.start v s.bufAddr s.buf).strike
    (by simp [Elem.Same, State.bufByte])

theorem State.withBufAddr_frame (s : State) (v : Word) : UnchangedExcept [.bufAddr] s { s with bufAddr := v } :=
  (s.withHostRegisters_frame s.bufLen s.frameSize s.start s.count v s.buf).strike (by simp [Elem.Same, State.bufByte])

/-- Settles O24: each read answers its register, and each write stores into its register under the lock. -/
theorem configurationRegisters : Obligations.ConfigurationRegisters := by
  unfold Obligations.ConfigurationRegisters
  refine ⟨fun s => ?_, fun s v hidle => ?_, fun s v hbusy => ?_, fun v => ⟨rfl, rfl, rfl, rfl, rfl, rfl, rfl, rfl⟩⟩
  · exact ⟨readsAs_answer s _, readsAs_answer s _, readsAs_answer s _, readsAs_answer s _⟩
  · exact ⟨⟨_, next_unlessBusy_idle hidle _, rfl, s.withBufLen_frame v⟩,
      ⟨_, next_unlessBusy_idle hidle _, rfl, s.withFrameSize_frame v⟩,
      ⟨_, next_unlessBusy_idle hidle _, rfl, s.withStart_frame v⟩,
      ⟨_, next_unlessBusy_idle hidle _, rfl, s.withCount_frame v⟩⟩
  · exact ⟨droppedAsBusy_unlessBusy hbusy _, droppedAsBusy_unlessBusy hbusy _, droppedAsBusy_unlessBusy hbusy _,
      droppedAsBusy_unlessBusy hbusy _⟩

/-- Settles O25: as O24 for BUF_ADDR, whose write checks nothing. -/
theorem bufAddrReadAndWrite : Obligations.BufAddrReadAndWrite := by
  unfold Obligations.BufAddrReadAndWrite
  refine ⟨fun s => readsAs_answer s s.bufAddr, fun s v hidle => ?_, fun s v hbusy => ?_, fun v => ⟨rfl, rfl⟩⟩
  · exact ⟨_, next_unlessBusy_idle hidle _, rfl, s.withBufAddr_frame v⟩
  · exact droppedAsBusy_unlessBusy hbusy _

theorem exec_wrBufData_idle {s : State} (h : s.op = .idle) (v : Word) :
    exec (.wrBufData v) s = .next (s.storeBufData v) := next_unlessBusy_idle h _

/-- What a BUF_DATA write below BUF_CAP leaves (R195). -/
theorem State.storeBufData_inside_frame {s : State} (h : s.bufAddr.toNat < s.params.bufCap.toNat) (v : Word) :
    UnchangedExcept [.buf, .bufAddr] s (s.storeBufData v) := by
  rw [State.storeBufData_inside h]
  exact (s.withHostRegisters_frame s.bufLen s.frameSize s.start s.count _ _).strike (by simp [Elem.Same])

/-- The bytes after a BUF_DATA write below BUF_CAP are those after its one byte was written. -/
theorem State.storeBufData_inside_bufByte {s : State} (h : s.bufAddr.toNat < s.params.bufCap.toNat) (v : Word) :
    (s.storeBufData v).bufByte = (s.writeByte s.bufAddr.toNat (v.setWidth 8)).bufByte := by
  rw [State.storeBufData_inside h]
  exact State.bufByte_congr rfl rfl

/-- BUF_ADDR does not wrap, since it was below BUF_CAP (R195). -/
theorem State.storeBufData_inside_bufAddr {s : State} (h : s.bufAddr.toNat < s.params.bufCap.toNat) (v : Word) :
    (s.storeBufData v).bufAddr.toNat = s.bufAddr.toNat + 1 := by
  have hcap := s.params.bufCap.isLt
  rw [State.storeBufData_inside h]
  exact BitVec.toNat_add_of_lt (by simp; omega)

/-- Settles O26, by whether BUF_ADDR is below BUF_CAP; a busy machine drops the write. -/
theorem bufDataWriteStoresOneByte : Obligations.BufDataWriteStoresOneByte := by
  unfold Obligations.BufDataWriteStoresOneByte
  refine ⟨fun s v hidle hinside => ?_, fun s v hidle houtside => ?_, fun s v hbusy => ?_, fun v => rfl⟩
  · have hlow : v.setWidth 8 = v.extractLsb' 0 8 := BitVec.setWidth_eq_extractLsb' (by decide)
    have hbytes := State.storeBufData_inside_bufByte hinside v
    refine ⟨_, exec_wrBufData_idle hidle v, ?_, fun a ha => ?_, State.storeBufData_inside_bufAddr hinside v,
      State.storeBufData_inside_frame hinside v⟩
    · rw [hbytes, State.bufByte_writeByte_self, hlow]
    · rw [hbytes, State.bufByte_writeByte_of_ne s _ ha]
  · rw [exec_wrBufData_idle hidle, State.storeBufData_outside houtside]
    exact ⟨_, rfl, s.status.raise_error_self .addrErr, s.raise_frame .addrErr⟩
  · exact droppedAsBusy_unlessBusy hbusy _

/-- A byte that is not listed as written since reset is the free value (R252). -/
theorem State.bufByte_of_unlisted {s : State} {a : Nat} (h : ∀ c ∈ s.buf, c.1 ≠ a) :
    s.bufByte a = Config.bufAtReset s.epoch a := by
  rw [State.bufByte, Memory.read?_eq_none h, Option.getD_none]

theorem readsAs_rdBufData (s : State) : ReadsAs s (exec .rdBufData s) s.bufDataWord := readsAs_answer s _

/-- Settles O27: the read answers in every state, and what it answers depends on BUF_ADDR. -/
theorem bufDataReadShowsOneByte : Obligations.BufDataReadShowsOneByte := by
  unfold Obligations.BufDataReadShowsOneByte
  refine ⟨fun s hinside => ?_, fun s houtside => ?_, fun s hinside hunlisted => ?_, fun v => rfl⟩
  · exact State.bufDataWord_inside hinside ▸ readsAs_rdBufData s
  · exact State.bufDataWord_outside houtside ▸ readsAs_rdBufData s
  · rw [← State.bufByte_of_unlisted hunlisted, ← State.bufDataWord_inside hinside]
    exact readsAs_rdBufData s

/-! ### The parameters (R202) -/

/-- Settles O32: each read answers its parameter. -/
theorem parametersRead : Obligations.ParametersRead := by
  unfold Obligations.ParametersRead
  exact ⟨fun s => ⟨readsAs_answer s _, readsAs_answer s _⟩, fun v => ⟨rfl, rfl⟩⟩

end Sys2Proof.Machine

/-! PROOFS. The exceptions family (60_exceptions): what a step does to the error bits (R220 to R222, R229), the illegal
command words (R224), and that every aligned access completes (R232). -/
namespace Sys2Proof.Machine
open Sys2Proof

/-! ### The error bits across a step (R221, R222, R228, R229)

Every move of either agent adds at most one error to those already set. The two exceptions are the ones that clear: a
STATUS write and a reset. That the bits are sticky and that an access raises one error at most both follow. -/

/-- The errors after are those before, and at most one more. -/
def Status.AddsAtMostOne (st st' : Status) : Prop :=
  ∃ added : Option ErrorCode, ∀ e, st'.error e = true ↔ st.error e = true ∨ added = some e

namespace Status.AddsAtMostOne

theorem of_errors_eq {st st' : Status} (h : ∀ e, st'.error e = st.error e) : st.AddsAtMostOne st' :=
  ⟨none, fun e => by simp [h e]⟩

theorem refl (st : Status) : st.AddsAtMostOne st := of_errors_eq fun _ => rfl

theorem withDone (st : Status) (b : Bool) : st.AddsAtMostOne { st with done := b } := of_errors_eq (st.withDone_error b)

theorem raise (st : Status) (c : ErrorCode) : st.AddsAtMostOne (st.raise c) :=
  ⟨some c, fun e => by
    rw [Status.raise_error, Bool.or_eq_true, decide_eq_true_iff, Option.some_inj, or_comm, eq_comm (a := e)]⟩

theorem sticky {st st' : Status} (h : st.AddsAtMostOne st') {e : ErrorCode} (he : st.error e = true) :
    st'.error e = true :=
  let ⟨_, hadded⟩ := h
  (hadded e).2 (.inl he)

theorem unique {st st' : Status} (h : st.AddsAtMostOne st') {e e' : ErrorCode} (he : st.error e = false)
    (ht : st'.error e = true) (he' : st.error e' = false) (ht' : st'.error e' = true) : e = e' := by
  obtain ⟨added, hadded⟩ := h
  have hnew {c : ErrorCode} (hc : st.error c = false) (htc : st'.error c = true) : added = some c :=
    ((hadded c).1 htc).resolve_left (Bool.eq_false_iff.1 hc)
  exact Option.some_injective _ ((hnew he ht).symm.trans (hnew he' ht'))

end Status.AddsAtMostOne

/-- A command that is refused raises one error; any other leaves the error bits alone. -/
theorem CommandEffect.addsAtMostOne {s t : State} {c : Command} (run : CommandEffect s c t) :
    s.status.AddsAtMostOne t.status := by
  cases run with
  | cfgErr | rangeErr => exact .raise _ _
  | crcRange | scanStart => exact .refl _
  | nop | crcInit | crcByte | frameCheck => exact .withDone _ true

/-- Clearing DONE before a command touches no error bit (R201). -/
theorem State.addsAtMostOne_of_beginCommand {s : State} {st : Status} (h : s.beginCommand.status.AddsAtMostOne st) :
    s.status.AddsAtMostOne st := by
  obtain ⟨added, hadded⟩ := h
  exact ⟨added, fun e => by simpa using hadded e⟩

/-- Of all instructions only a STATUS write does anything else to the error bits than raise one. -/
theorem Effect.addsAtMostOne_or_clears {s t : State} {i : Instr} (run : Effect s i t) :
    s.status.AddsAtMostOne t.status ∨ ∃ v, i = .wrStatus v ∧ t.status = s.status.clear v := by
  cases run with
  | statusClear v => exact .inr ⟨v, rfl, rfl⟩
  | dropped | addrErr => exact .inl (.raise _ _)
  | cmdErr => exact .inl (State.addsAtMostOne_of_beginCommand (.raise _ _))
  | command _ _ _ _ _ run => exact .inl (State.addsAtMostOne_of_beginCommand run.addsAtMostOne)
  | _ => exact .inl (.refl _)

/-- The one error the engine raises is RES_OVF, when it finds a frame and has no room for it (R228). -/
theorem State.takeFrame_addsAtMostOne (s : State) : s.status.AddsAtMostOne s.takeFrame.status := by
  by_cases hroom : s.validCount.toNat < s.params.resDepth.toNat
  · rw [State.takeFrame_room hroom]
    exact .refl _
  · rw [State.takeFrame_full hroom]
    exact .raise _ .resOvf

theorem EngineEffect.addsAtMostOne {s t : State} (run : EngineEffect s t) : s.status.AddsAtMostOne t.status := by
  cases run with
  | takeFrame => exact s.takeFrame_addsAtMostOne
  | rangeEnd | scanEnd => exact .withDone _ true
  | idle | rangeByte | skipByte | countBad => exact .refl _

theorem SameMachine.status_eq {s t : State} (h : SameMachine s t) : t.status = s.status := by
  rw [h.eq]

/-- Settles O51, by the cases of what a step can do: but for the reset and the STATUS write no move clears an error, and
a STATUS write keeps the bits it has a 0 for. -/
theorem errorBitsAreSticky : Obligations.ErrorBitsAreSticky := by
  unfold Obligations.ErrorBitsAreSticky
  intro s t e hstep he
  cases step_effect hstep with
  | nobody => exact .inl he
  | engine _ _ _ same run => exact .inl (run.addsAtMostOne.sticky (same.status_eq ▸ he))
  | reset s' hturn => exact .inr (.inl ⟨s', hturn⟩)
  | instr s' _ _ hnext same run =>
    have he' : s'.status.error e = true := same.status_eq ▸ he
    rcases run.addsAtMostOne_or_clears with hadds | ⟨v, rfl, hclear⟩
    · exact .inl (hadds.sticky he')
    · cases hbit : v.getLsbD e.bit with
      | true => exact .inr (.inr ⟨v, hnext, hbit⟩)
      | false => exact .inl (by rw [hclear, Status.clear_error, he', hbit]; rfl)

/-- Settles O52: an instruction adds one error at most, and a STATUS write adds none. -/
theorem oneErrorPerAccess : Obligations.OneErrorPerAccess := by
  unfold Obligations.OneErrorPerAccess
  intro i s t e e' hexec he ht he' ht'
  rcases (exec_effect hexec).addsAtMostOne_or_clears with hadds | ⟨v, -, hclear⟩
  · exact hadds.unique he ht he' ht'
  · rw [hclear, Status.clear_error, he] at ht
    exact absurd ht Bool.false_ne_true

/-! ### Illegal command words (R84, R224) -/

theorem cmdRsv_encodeCommand_crcByte : ∀ b : Byte, cmdRsv (encodeCommand (.crcByte b)) = 0 := by
  decide +kernel

/-- A command's own word meets none of R224's three conditions. -/
theorem cmdFields_encodeCommand (c : Command) :
    (cmdOpc (encodeCommand c)).toNat < 0x06 ∧ cmdRsv (encodeCommand c) = 0 ∧
      (cmdImm8 (encodeCommand c) = 0 ∨ (cmdOpc (encodeCommand c)).toNat = 0x02) := by
  cases c with
  | crcByte b =>
    rw [cmdOpc_encodeCommand_crcByte]
    exact ⟨by decide, cmdRsv_encodeCommand_crcByte b, .inr rfl⟩
  | _ => decide

/-- Settles O12: a word that decodes is its command's own, which meets none of the three conditions. -/
theorem illegalWordSetsCmdErrOnly : Obligations.IllegalWordSetsCmdErrOnly := by
  unfold Obligations.IllegalWordSetsCmdErrOnly
  intro s w hidle hillegal
  cases hdecode : decodeCommand w with
  | error r => exact refusedWith_cmdErr hidle hdecode
  | ok c =>
    obtain rfl := eq_encodeCommand_of_decodeCommand hdecode
    obtain ⟨hopc, hrsv, himm⟩ := cmdFields_encodeCommand c
    rcases hillegal with hopc' | hrsv' | ⟨himm', hopc'⟩
    · exact absurd hopc (Nat.not_lt.2 hopc')
    · exact absurd hrsv hrsv'
    · exact absurd himm (not_or.2 ⟨himm', hopc'⟩)

/-! ### Aligned accesses and commands complete (R190, R191, R232) -/

/-- Every write answers a next state, at a reserved offset too (R66). -/
theorem exec_decodeWrite_answers (word : BitVec 6) (v : Word) (s : State) :
    ∃ t, exec (decodeWrite word v) s = .next t := by
  rcases Nat.lt_or_ge word.toNat 0x17 with hregister | hreserved
  · obtain ⟨n, hn, rfl⟩ : ∃ n < 0x17, word = BitVec.ofNat 6 n := ⟨_, hregister, by simp⟩
    interval_cases n <;> exact ⟨_, rfl⟩
  · exact ⟨s, exec_decodeWrite_reserved hreserved v s⟩

/-- Settles O36: an aligned access is a read or a write, and a command row is a CMD write; each of them answers. -/
theorem everyAlignedAccessCompletes : Obligations.EveryAlignedAccessCompletes := by
  unfold Obligations.EveryAlignedAccessCompletes
  refine ⟨fun s d v hal => ?_, fun s c => ⟨_, exec_commandInstr c s⟩⟩
  rw [decodeBus_aligned hal]
  split
  · exact exec_decodeWrite_answers (descWord d) v s
  · obtain ⟨w, hread⟩ := exec_decodeRead (descWord d) s
    exact ⟨_, hread⟩

end Sys2Proof.Machine

/-! PROOFS. Reset (70_reset_and_hazards): the reset state, the pulse that gives it from every state, the invariants it
starts with, and that the free values of `res` stay hidden. -/
namespace Sys2Proof.Machine
open Sys2Proof

/-! ### Unwritten results (R171, R253) -/

/-- What is listed is what the entry is: the free value of R253 stands only where nothing is listed. -/
theorem State.resEntry_of_read? {s : State} {k : Nat} {e : ResEntry} (h : Memory.read? s.res k = some e) :
    s.resEntry k = e := by
  simp [State.resEntry, h]

/-- Settles O56: the invariant lists an entry at a readable index, and the two reads answer that entry's fields. -/
theorem unwrittenResultsAreNeverSeen : Obligations.UnwrittenResultsAreNeverSeen := by
  unfold Obligations.UnwrittenResultsAreNeverSeen
  intro s hinv hstored
  obtain ⟨e, hread⟩ := Option.isSome_iff_exists.1 (hinv.readable_written _ hstored)
  have hentry : s.resEntry s.resIdx.toNat = e := State.resEntry_of_read? hread
  have hoffset : s.resOffsetWord = e.offset := hentry ▸ State.resOffsetWord_stored hstored
  have hcounter : s.resCounterWord = e.counter := hentry ▸ State.resCounterWord_stored hstored
  exact ⟨e, Memory.mem_of_read? hread, hoffset ▸ readsAs_rdResOffset s, hcounter ▸ readsAs_rdResCounter s⟩

/-! ### The reset state (R250 to R253, R255) -/

theorem State.resetWith_nStored (p : Params) (epoch : Nat) : (State.resetWith p epoch).nStored = 0 := Nat.zero_min _

/-- The machine right after a reset shows R251's values with every parameter, whatever the host has read and has yet to
do. -/
theorem State.resetWith_isResetState (p : Params) (epoch : Nat) (pending : List HostEvent) (schedule : List Agent)
    (hostRead : Option Word) :
    IsResetState { State.resetWith p epoch with pending := pending, schedule := schedule, hostRead := hostRead } := by
  obtain ⟨⟨hfirst, -⟩, -⟩ := tableContents
  obtain ⟨-, hnone, -⟩ := resultReadPort
  obtain ⟨hoffset, hcounter⟩ := hnone
    { State.resetWith p epoch with pending := pending, schedule := schedule, hostRead := hostRead }
    (State.resetWith_nStored p epoch).le
  exact
    { op_idle := rfl
      status_zero := show Status.reset.word false = 0 by decide
      crc_one := rfl
      buf_len := rfl
      frame_size := rfl
      start_zero := rfl
      count_zero := rfl
      buf_addr := rfl
      tbl_idx := rfl
      res_idx := rfl
      cursor_zero := rfl
      valid_count := rfl
      bad_count := rfl
      chk_result := rfl
      chk_computed := rfl
      chk_stored := rfl
      chk_counter := rfl
      tbl_data := hfirst ▸ readsAs_answer _ _
      tbl_constant := fun _ => readsAs_answer _ _
      res_offset := hoffset
      res_counter := hcounter
      buf_cap := readsAs_answer _ _
      res_depth := readsAs_answer _ _
      buf_free := fun _ => rfl
      res_free := fun _ => rfl }

/-- Settles O1: the reset state is a machine right after a reset, with the example parameters. -/
theorem resetStateIsTheSpecs : Obligations.ResetStateIsTheSpecs :=
  State.resetWith_isResetState Config.exampleParams 0 [] [] none

theorem State.applyReset_isResetState (s : State) : IsResetState s.applyReset :=
  State.resetWith_isResetState s.params (s.epoch + 1) s.pending s.schedule s.hostRead

theorem step_of_reset {s s' : State} (hturn : s.turn = .host .reset s') : step s = .next s'.applyReset := by
  simp only [step, hturn, fetchEvent]

theorem SameMachine.params_eq {s t : State} (h : SameMachine s t) : t.params = s.params := by
  rw [h.eq]

/-- Settles O2: the step is the reset input, which keeps the parameters and what the host has yet to do. -/
theorem resetInputGivesResetState : Obligations.ResetInputGivesResetState := by
  unfold Obligations.ResetInputGivesResetState
  intro s s' hturn
  have hparams : s'.applyReset.params = s.params := (State.turn_host hturn).params_eq
  exact ⟨s'.applyReset, step_of_reset hturn, s'.applyReset_isResetState, hparams, rfl⟩

/-! ### The invariants at reset (R251, R253) -/

/-- With legal parameters the invariant holds right after a reset: nothing is listed, and no result is readable. -/
theorem State.resetWith_inv {p : Params} (hlegal : p.Legal) (epoch : Nat) : (State.resetWith p epoch).Inv :=
  State.StoredInv.inv_of_idle (hidle := rfl)
    { params_legal := hlegal
      buf_canonical := Memory.wf_nil
      buf_inside := nofun
      res_canonical := Memory.wf_nil
      res_inside := nofun
      readable_written := fun k hk => absurd (State.resetWith_nStored p epoch ▸ hk) (Nat.not_lt_zero k)
      valid_bit := by simp [State.resetWith] }

/-- Settles O43: the example parameters are legal, and the invariants of a scan's results speak of a running scan only. -/
theorem resetHasTheInvariants : Obligations.ResetHasTheInvariants := by
  unfold Obligations.ResetHasTheInvariants
  have hlegal : Config.exampleParams.Legal := by decide
  exact ⟨State.resetWith_inv hlegal 0, nofun, nofun, State.resetWith_nStored _ _⟩

end Sys2Proof.Machine
